-- ==== Sys2Proof/Word.lean ====
section
/-! DEFINITION. The widths the spec gives its data (00_scope.md R7) and nothing else. -/

namespace Sys2Proof

/-- A command word or a returned word: 32 bits (R7 `RSP_W`, R62). -/
abbrev Word := BitVec 32

/-- A register address, a payload, a result or a byte on the wire: 8 bits (R7 `REG_W`, `DATA_W`). -/
abbrev Byte := BitVec 8

/-- A device address: 7 bits (R7 `ADDR_W`). -/
abbrev DevAddr := BitVec 7

/-- A phase ordinal: 3 bits (R20 `PH`, R66 `rsp_phase`). -/
abbrev Phase := BitVec 3

end Sys2Proof
end

