-- ==== Sys2Proof/Config.lean ====
section
/-! DEFINITION. What one model instance fixes (00_scope.md R7) and the free values. The open parameters and the free
values are opaque constants with no body: nothing can evaluate them, so a theorem holds for every value they may have. -/

namespace Sys2Proof

/-- `N_TIMEOUT - 1`. R7 leaves `N_TIMEOUT` open between 1 and 2^32 - 1; counting from zero here makes a zero budget
inexpressible (D27). Log entry 3. -/
opaque Config.spareBudget : Fin 4294967295

/-- `N_TIMEOUT`: the number loaded into `CNT` at the entry of every wait (R7, R8). -/
def Config.nTimeout : Word := BitVec.ofNat 32 (Config.spareBudget.val + 1)

/-- `SENTINEL`: the value returned on any timeout (R7). -/
def Config.sentinel : Word := 0#32

/-- `SCL_RATE` in Hz: handed to the line unit by `CONFIGURE`, read by no rule (R7, R154). -/
def Config.sclRateHz : Nat := 100000

/-- The `n`-th free draw of the nine status inputs `flags[8:0]` (R40, R41, R51). Free value. Log entry 6. -/
opaque Config.flagsDraw : Nat → BitVec 9

/-- The `n`-th free draw of `rx_data[7:0]` (R40, R41, R51). Free value. Log entry 6. -/
opaque Config.rxDraw : Nat → Byte

/-- `CNT` after the reset step that makes the `n`-th draw (R31, R135: unspecified). Free value. Log entry 7. -/
opaque Config.resetCnt : Nat → Word

/-- `DEV` after such a reset step (R31, R135: unspecified). Free value. Log entry 7. -/
opaque Config.resetDev : Nat → DevAddr

/-- `REG` after such a reset step (R31, R135: unspecified). Free value. Log entry 7. -/
opaque Config.resetReg : Nat → Byte

/-- `DAT` after such a reset step (R31, R135: unspecified). Free value. Log entry 7. -/
opaque Config.resetDat : Nat → Byte

/-- `RES` after such a reset step (R31, R135: unspecified). Free value. Log entry 7. -/
opaque Config.resetRes : Nat → Byte

/-- `ADDR_GYRO`, open (R7, R75): the facade's only. Log entry 10. -/
opaque Config.addrGyro : DevAddr

/-- `ADDR_XM`, open (R7, R75): the facade's only. Log entry 10. -/
opaque Config.addrXm : DevAddr

/-- First register of the angular-rate sample, not in the spec (R76): six consecutive addresses fit from here. Log entry 10. -/
opaque Config.baseAngularRate : Fin 251

/-- First register of the acceleration sample, not in the spec (R76). Log entry 10. -/
opaque Config.baseAcceleration : Fin 251

/-- First register of the magnetic-field sample, not in the spec (R76). Log entry 10. -/
opaque Config.baseMagneticField : Fin 251

/-- By how much, less 1, a facade result exceeds the exact product for a scale numerator and a raw value: its last unit
is not stated (R76, N17). Free value. Log entry 12. -/
opaque Config.scaleSlack : Int → Int → Fin 3

end Sys2Proof
end

