-- ==== Sys2Proof/Syntax.lean ====
section
/-! DEFINITION. The three host commands (30_encoding.md R60) and the assembler line that names one. -/

namespace Sys2Proof

/-- The commands of spec/opcode_table.json, operands already cut to their fields' widths (R62). -/
inductive Instr where
  /-- `INIT` (R60, R93). -/
  | init
  /-- `WRB addr7, reg8, val8` (R60, R108). -/
  | wrb (addr : DevAddr) (reg val : Byte)
  /-- `RDB addr7, reg8` (R60, R96). -/
  | rdb (addr : DevAddr) (reg : Byte)
  deriving DecidableEq, Repr

/-- One assembler line as R60 writes it: the operands are unsigned numerals of any size, which an assembler checks. -/
inductive AsmLine where
  | init
  | wrb (addr reg val : Nat)
  | rdb (addr reg : Nat)
  deriving DecidableEq, Repr

/-- The mnemonic of the opcode table (R60). -/
def Instr.mnemonic : Instr → String
  | .init => "INIT"
  | .wrb _ _ _ => "WRB"
  | .rdb _ _ => "RDB"

end Sys2Proof
end

