-- ==== Sys2Proof/WellFormed.lean ====
section
/-! DEFINITION. The operand checks of an assembler (30_encoding.md R60). Every term of Instr is well formed by its
operands' widths, so the checks stand where ill-formed terms exist: on the assembler line. -/

namespace Sys2Proof

/-- `addr7` is in 0..127 (R60). -/
def AsmLine.addrInRange : AsmLine → Bool
  | .init => true
  | .wrb a _ _ => decide (a < 128)
  | .rdb a _ => decide (a < 128)

/-- `reg8` is in 0..255 (R60). -/
def AsmLine.regInRange : AsmLine → Bool
  | .init => true
  | .wrb _ r _ => decide (r < 256)
  | .rdb _ r => decide (r < 256)

/-- `val8` is in 0..255 (R60). -/
def AsmLine.valInRange : AsmLine → Bool
  | .init => true
  | .wrb _ _ v => decide (v < 256)
  | .rdb _ _ => true

/-- An assembler refuses a numeral out of range (R60). -/
def AsmLine.wellFormed (l : AsmLine) : Bool :=
  l.addrInRange && l.regInRange && l.valInRange

/-- The command an assembler line stands for, none where the assembler refuses it (R60). -/
def AsmLine.assemble (l : AsmLine) : Option Instr :=
  if l.wellFormed then
    match l with
    | .init => some .init
    | .wrb a r v => some (.wrb (BitVec.ofNat 7 a) (BitVec.ofNat 8 r) (BitVec.ofNat 8 v))
    | .rdb a r => some (.rdb (BitVec.ofNat 7 a) (BitVec.ofNat 8 r))
  else none

end Sys2Proof
end

