-- ==== Sys2Proof/Decode.lean ====
section
/-! DEFINITION. The command word: its one format (30_encoding.md R62), the total decoder (R74), which rejects by name
(R68), and the encoder written from the format. -/

namespace Sys2Proof

/-- `RSV1`, bits 31:26 (R62). -/
def Word.rsv1 (w : Word) : BitVec 6 := w.extractLsb' 26 6

/-- `OPC`, bits 25:24 (R62). -/
def Word.opc (w : Word) : BitVec 2 := w.extractLsb' 24 2

/-- `RSV0`, bit 23 (R62). -/
def Word.rsv0 (w : Word) : BitVec 1 := w.extractLsb' 23 1

/-- `ADDR7`, bits 22:16 (R62, R73). -/
def Word.addr7 (w : Word) : DevAddr := w.extractLsb' 16 7

/-- `REG8`, bits 15:8 (R62, R73). -/
def Word.reg8 (w : Word) : Byte := w.extractLsb' 8 8

/-- `VAL8`, bits 7:0 (R62, R73). -/
def Word.val8 (w : Word) : Byte := w.extractLsb' 0 8

/-- Why a word is illegal: the five cases of R68. -/
inductive Illegal where
  /-- `RSV1` is not 0. -/
  | rsv1NotZero
  /-- `RSV0` is not 0. -/
  | rsv0NotZero
  /-- `OPC` is 0b00. -/
  | opcReserved
  /-- `OPC` is 0b01 and some bit of 23:0 is set. -/
  | initOperandNotZero
  /-- `OPC` is 0b11 and `VAL8` is not 0. -/
  | rdbValueNotZero
  deriving DecidableEq, Repr

/-- The name of the first case of R68 that a word matching none of the three patterns meets. -/
def illegalReason (w : Word) : Illegal :=
  if w.rsv1 ≠ 0#6 then .rsv1NotZero
  else if w.opc = 0#2 then .opcReserved
  else if w.opc = 1#2 then .initOperandNotZero
  else if w.rsv0 ≠ 0#1 then .rsv0NotZero
  else .rdbValueNotZero

/-- R74: the decoder, total on all 2^32 words. -/
def decode (w : Word) : Except Illegal Instr :=
  if w = 0x01000000#32 then .ok .init
  else if w &&& 0xFF800000#32 = 0x02000000#32 then .ok (.wrb w.addr7 w.reg8 w.val8)
  else if w &&& 0xFF8000FF#32 = 0x03000000#32 then .ok (.rdb w.addr7 w.reg8)
  else .error (illegalReason w)

/-- R62: the six fields side by side, `RSV1` highest. -/
def packCommand (rsv1 : BitVec 6) (opc : BitVec 2) (rsv0 : BitVec 1) (addr : DevAddr) (reg val : Byte) : Word :=
  rsv1 ++ opc ++ rsv0 ++ addr ++ reg ++ val

/-- The word of a command (R63, R64, R65), by the opcodes of R62. -/
def encode : Instr → Word
  | .init => packCommand 0#6 0b01#2 0#1 0#7 0#8 0#8
  | .wrb a r v => packCommand 0#6 0b10#2 0#1 a r v
  | .rdb a r => packCommand 0#6 0b11#2 0#1 a r 0#8

/-- The mask column of spec/opcode_table.json (R63, R64, R65). -/
def Instr.rowMask : Instr → Word
  | .init => 0xFFFFFFFF#32
  | .wrb _ _ _ => 0xFF800000#32
  | .rdb _ _ => 0xFF8000FF#32

/-- The match column of spec/opcode_table.json (R63, R64, R65). -/
def Instr.rowMatch : Instr → Word
  | .init => 0x01000000#32
  | .wrb _ _ _ => 0x02000000#32
  | .rdb _ _ => 0x03000000#32

/-- The word the host lays on the command port for a table row of `nbits` bits with value `w`; the bits above `nbits`
are 0. A command is one word on a port, so there is no byte order (R46, R61). -/
def tableWord (nbits w : Nat) : Word := BitVec.ofNat 32 (w % 2 ^ nbits)

/-- What `decode` reads from a table row's word, none where it refuses. -/
def decodeTableWord (nbits w : Nat) : Option Instr :=
  match decode (tableWord nbits w) with
  | .ok i => some i
  | .error _ => none

end Sys2Proof
end

