-- ==== Sys2Proof/Machine/State.lean ====
section
/-! DEFINITION. The machine's state as plain data: the ten registers of 10_state.md R13 (ACTIVE, DIR and PH are `pc`),
the ports on either side of the CORE, and the environment beyond them (20_memory.md R51 to R58). -/

namespace Sys2Proof.Machine

/-- Direction of a transaction or of an address byte (R19; R70). -/
inductive Dir where
  /-- 0: Write, transmitter direction. -/
  | write
  /-- 1: Read, receiver direction. -/
  | read
  deriving DecidableEq, Repr

/-- The sequencer state `pc`, the triple (`ACTIVE`, `DIR`, `PH`): its fourteen values (R20). -/
inductive Pc where
  /-- No transaction in flight. -/
  | idle
  /-- Write, waiting for bus-busy to clear. -/
  | w0
  /-- Write, waiting for "master mode selected". -/
  | w1
  /-- Write, waiting for "transmitter mode selected". -/
  | w2
  /-- Write, waiting for "byte transmitting". -/
  | w3
  /-- Write, waiting for byte-transfer-finished. -/
  | w4
  /-- Read, waiting for bus-busy to clear. -/
  | r0
  /-- Read, waiting for "master mode selected" (first START). -/
  | r1
  /-- Read, waiting for "transmitter mode selected". -/
  | r2
  /-- Read, waiting for byte-transfer-finished. -/
  | r3
  /-- Read, waiting for "master mode selected" (repeated START). -/
  | r4
  /-- Read, waiting for the address-acknowledge flag. -/
  | r5
  /-- Read, waiting for receive-buffer-not-empty. -/
  | r6
  /-- Read, waiting for the STOP bit to clear. -/
  | r7
  deriving DecidableEq, Repr

/-- The flag sample `F`: nine status inputs and the received-data input (R40). -/
structure FlagSample where
  busy : Bool
  evMs : Bool
  evTxsel : Bool
  evTxing : Bool
  btf : Bool
  addr : Bool
  rxne : Bool
  stopf : Bool
  af : Bool
  rxData : Byte
  deriving DecidableEq, Repr

/-- The ten actions the CORE asks of the line unit (R42); the two sends carry `tx_byte`. -/
inductive Action where
  | configure
  | ackDisable
  | ackEnable
  | clearAddr
  | start
  | stop
  | sendAddr (b : Byte)
  | sendData (b : Byte)
  | readData
  | clearAf
  deriving DecidableEq, Repr

/-- `rsp_status` (R67); the code 0b11 is never produced. -/
inductive Status where
  | ok
  | timeout
  | refused
  deriving DecidableEq, Repr

/-- `respond(data, status, phase)` (R66). -/
structure Response where
  data : Word
  status : Status
  phase : Phase
  deriving DecidableEq, Repr

/-- `diag(dir, ph)` (R69). -/
structure Diag where
  dir : Dir
  phase : Phase
  deriving DecidableEq, Repr

/-- The outputs of one step (00_scope.md section 5, R30): the ordered action list, the response and the diagnostic. -/
structure Outputs where
  actions : List Action
  rsp : Option Response
  diag : Option Diag
  deriving DecidableEq, Repr

/-- A step with no output. -/
def Outputs.none : Outputs := { actions := [], rsp := .none, diag := .none }

/-- Why a command is refused (R120). The reason is not reported. -/
inductive RefuseReason where
  /-- `ILLEGAL_ENCODING`: the decoder rejects the word. -/
  | illegalEncoding
  /-- `INIT_REPEATED`: INIT with `INITD = 1`. -/
  | initRepeated
  /-- `NOT_INITIALIZED`: RDB or WRB with `INITD = 0`. -/
  | notInitialized
  deriving DecidableEq, Repr

/-- What the host drives in one step: `rst`, and `cmd_word` where `cmd_valid` is 1 (R61, R80). -/
structure HostInput where
  rst : Bool
  cmd : Option Word
  deriving DecidableEq, Repr

/-- The host drives nothing in the step (R157). -/
def HostInput.quiet : HostInput := { rst := false, cmd := .none }

/-- Bytes by address: addresses strictly rising, no entry equal to 0, an unlisted address reads 0. Log entry 8. -/
abbrev Memory := List Host.Cell

/-- The canonical form of a memory. -/
abbrev Memory.wf (m : Memory) : Prop :=
  m.Pairwise (fun x y => x.1 < y.1) ∧ ∀ c ∈ m, c.2 ≠ 0#8

/-- ENV-ECHO's state (R52). `mem` is keyed by device and register, `ptr` by device; the flags and `rx_data` are the
sample it gives. -/
structure EchoEnv where
  present : List DevAddr
  mem : Memory
  ptr : Memory
  sel : Option (DevAddr × Dir)
  nbytes : Nat
  flags : FlagSample
  deriving DecidableEq, Repr

/-- One transaction of ENV-SCRIPT (R58): `s(t, k)` for each phase, `none` for never, and the byte `d(t)`. -/
structure ScriptRow where
  firstTrue : Vector (Option Nat) 8
  byte : Byte
  deriving DecidableEq, Repr

/-- ENV-SCRIPT's state (R58): the script, how many transactions were accepted since reset, and how many polls the
current phase has had. -/
structure ScriptEnv where
  rows : List ScriptRow
  txn : Nat
  polls : Nat
  deriving DecidableEq, Repr

/-- Where flag samples come from (R51, R155). -/
inductive Env where
  /-- Any environment at all: the samples of the coming active steps; past the list each sample is a free draw. -/
  | oracle (next : List FlagSample)
  /-- ENV-ECHO (R52 to R57). -/
  | echo (e : EchoEnv)
  /-- ENV-SCRIPT (R58). -/
  | script (e : ScriptEnv)
  deriving DecidableEq, Repr

/-- The whole state: first the CORE's registers (R13), then what lies outside the CORE. -/
structure State where
  /-- `ACTIVE`, `DIR` and `PH` (R20). -/
  pc : Pc
  /-- `CNT`: polls left in the current wait (R26). -/
  cnt : Word
  /-- `DEV`: device address of the transaction (R14). -/
  dev : DevAddr
  /-- `REG`: register address of the transaction (R15). -/
  reg : Byte
  /-- `DAT`: payload of a write (R16). -/
  dat : Byte
  /-- `RES`: byte captured by a read (R17). -/
  res : Byte
  /-- `ACK_EN`: acknowledge generation enabled (R24). -/
  ackEn : Bool
  /-- `INITD`: an INIT was accepted since reset (R25). -/
  initd : Bool
  /-- The outputs of the step just taken (R30: of that step only). Log entry 4. -/
  out : Outputs
  /-- The host's inputs in the coming steps, the next step's first; past the list the host is quiet. Log entry 5. -/
  host : List HostInput
  /-- The environment beyond the line-unit interface (R51). -/
  env : Env
  /-- Numbers the free draws. Log entry 6. -/
  draws : Nat
  deriving DecidableEq, Repr

/-- Why the machine stops with a fault: never. The spec gives the CORE no condition that stops it (R92, R121): a
timeout ends a command, not the machine. So this type has no constructor, and nothing raises a fault. -/
inductive Fault where
  deriving DecidableEq, Repr

/-- Why an instruction has no meaning. -/
inductive Refusal where
  /-- An instruction with no meaning yet, raised by `exec`'s arm for it. Safe: nothing is claimed of it. No arm raises it. -/
  | notModelled (mnemonic : String)
  deriving DecidableEq, Repr

/-- The machine right after reset (R31, R158 `ResetState`): control registers 0. The latches and `CNT`, which R31 leaves
unspecified, hold 0 (DESIGN CHOICE, log entry 1). The host drives nothing and the environment is unconstrained. -/
def State.reset : State :=
  { pc := .idle, cnt := 0#32, dev := 0#7, reg := 0#8, dat := 0#8, res := 0#8, ackEn := false, initd := false,
    out := Outputs.none, host := [], env := .oracle [], draws := 0 }

end Sys2Proof.Machine
end

