-- ==== Sys2Proof/Machine/Flags.lean ====
section
/-! DEFINITION. The sequencer state's fields (10_state.md R20) and the flag monitor: the flag sample as the port sees it
(20_memory.md R40) and the wait condition of every state (40_sequencer_common.md R82). -/

namespace Sys2Proof.Machine

/-- The 1-bit code of a direction: 1 Read, 0 Write (R19, R70). -/
def Dir.bit : Dir → BitVec 1
  | .write => 0#1
  | .read => 1#1

/-- `ACTIVE` (R20). -/
def Pc.active : Pc → Bool
  | .idle => false
  | .w0 | .w1 | .w2 | .w3 | .w4 => true
  | .r0 | .r1 | .r2 | .r3 | .r4 | .r5 | .r6 | .r7 => true

/-- `DIR` (R19, R20); the idle state's is 0. -/
def Pc.dir : Pc → Dir
  | .idle => .write
  | .w0 | .w1 | .w2 | .w3 | .w4 => .write
  | .r0 | .r1 | .r2 | .r3 | .r4 | .r5 | .r6 | .r7 => .read

/-- `PH` (R20, R81). -/
def Pc.ph : Pc → Phase
  | .idle | .w0 | .r0 => 0#3
  | .w1 | .r1 => 1#3
  | .w2 | .r2 => 2#3
  | .w3 | .r3 => 3#3
  | .w4 | .r4 => 4#3
  | .r5 => 5#3
  | .r6 => 6#3
  | .r7 => 7#3

/-- The 5-bit encoding `{ACTIVE, DIR, PH}` (R20). -/
def Pc.bits (p : Pc) : BitVec 5 := BitVec.ofBool p.active ++ p.dir.bit ++ p.ph

/-- The state a successful wait leads to (R21). -/
def Pc.next : Pc → Pc
  | .idle => .idle
  | .w0 => .w1
  | .w1 => .w2
  | .w2 => .w3
  | .w3 => .w4
  | .w4 => .idle
  | .r0 => .r1
  | .r1 => .r2
  | .r2 => .r3
  | .r3 => .r4
  | .r4 => .r5
  | .r5 => .r6
  | .r6 => .r7
  | .r7 => .idle

/-- The sample as the ports `flags[8:0]` and `rx_data[7:0]` carry it (R40). -/
def FlagSample.ofPorts (flags : BitVec 9) (rx : Byte) : FlagSample :=
  { busy := flags.getLsbD 0, evMs := flags.getLsbD 1, evTxsel := flags.getLsbD 2, evTxing := flags.getLsbD 3,
    btf := flags.getLsbD 4, addr := flags.getLsbD 5, rxne := flags.getLsbD 6, stopf := flags.getLsbD 7,
    af := flags.getLsbD 8, rxData := rx }

/-- The port `flags[8:0]` (R40): `busy` at bit 0, `af` at bit 8. -/
def FlagSample.flagsPort (f : FlagSample) : BitVec 9 :=
  BitVec.ofBool f.af ++ BitVec.ofBool f.stopf ++ BitVec.ofBool f.rxne ++ BitVec.ofBool f.addr ++ BitVec.ofBool f.btf ++
    BitVec.ofBool f.evTxing ++ BitVec.ofBool f.evTxsel ++ BitVec.ofBool f.evMs ++ BitVec.ofBool f.busy

/-- `cond(pc, F)` (R82). There is no wait in the idle state; its entry is never asked for (R86 (c)). -/
def waitCond (p : Pc) (f : FlagSample) : Bool :=
  match p with
  | .idle => false
  | .r0 | .w0 => !f.busy
  | .r1 | .w1 => f.evMs
  | .r2 | .w2 => f.evTxsel
  | .r3 => f.btf
  | .r4 => f.evMs
  | .r5 => f.addr
  | .r6 => f.rxne
  | .r7 => !f.stopf
  | .w3 => f.evTxing
  | .w4 => f.btf

/-- The sample `f` with the one flag that state `p` awaits set so that its condition is `b` (used by R58). -/
def FlagSample.withCond (f : FlagSample) (p : Pc) (b : Bool) : FlagSample :=
  match p with
  | .idle => f
  | .r0 | .w0 => { f with busy := !b }
  | .r1 | .w1 => { f with evMs := b }
  | .r2 | .w2 => { f with evTxsel := b }
  | .r3 => { f with btf := b }
  | .r4 => { f with evMs := b }
  | .r5 => { f with addr := b }
  | .r6 => { f with rxne := b }
  | .r7 => { f with stopf := !b }
  | .w3 => { f with evTxing := b }
  | .w4 => { f with btf := b }

end Sys2Proof.Machine
end

