-- ==== Sys2Proof/Machine/Operands.lean ====
section
/-! DEFINITION. Operand assembly (30_encoding.md R70 to R72) and the output ports' encodings (20_memory.md R42,
30_encoding.md R67 and R69). -/

namespace Sys2Proof.Machine

/-- R70: the address byte `{DEV, d}`. The layout is from general knowledge (93 G2): PRESUMED, log entry 11. -/
def addressByte (dev : DevAddr) (d : Dir) : Byte := dev ++ d.bit

/-- The device address of an address byte, bits 7:1 (R55). -/
def addressByteDev (b : Byte) : DevAddr := b.extractLsb' 1 7

/-- The direction of an address byte, bit 0 (R55). -/
def addressByteDir (b : Byte) : Dir := if b.getLsbD 0 then .read else .write

/-- R72: the returned word, `zext_32` of the captured byte. -/
def resultWord (res : Byte) : Word := res.setWidth 32

/-- `rsp_status` (R67). -/
def Status.code : Status → BitVec 2
  | .ok => 0b00#2
  | .timeout => 0b01#2
  | .refused => 0b10#2

/-- An action's bit of the strobe vector `act[9:0]` (R42). -/
def Action.bit : Action → Nat
  | .configure => 0
  | .ackDisable => 1
  | .ackEnable => 2
  | .clearAddr => 3
  | .start => 4
  | .stop => 5
  | .sendAddr _ => 6
  | .sendData _ => 7
  | .readData => 8
  | .clearAf => 9

/-- The byte an action puts on `tx_byte` (R42). -/
def Action.txByte : Action → Option Byte
  | .sendAddr b | .sendData b => some b
  | .configure | .ackDisable | .ackEnable | .clearAddr | .start | .stop | .readData | .clearAf => none

/-- The strobe vector `act[9:0]` of a step (R42). -/
def Outputs.actPort (o : Outputs) : BitVec 10 :=
  o.actions.foldl (fun v a => v ||| BitVec.twoPow 10 a.bit) 0#10

/-- `tx_byte` of a step, where some action carries one (R42). -/
def Outputs.txByte (o : Outputs) : Option Byte := o.actions.findSome? Action.txByte

/-- `rsp_valid` (R66). -/
def Outputs.rspValid (o : Outputs) : Bool := o.rsp.isSome

/-- `diag_valid` (R69). -/
def Outputs.diagValid (o : Outputs) : Bool := o.diag.isSome

end Sys2Proof.Machine
end

