-- ==== Sys2Proof/Machine/Environment.lean ====
section
/-! DEFINITION. The environment beyond the line-unit interface (20_memory.md R51): ENV-ECHO with its device registers
(R52 to R57) and ENV-SCRIPT (R58). No rule of the CORE depends on these; the CORE sees a sample and emits actions. -/

namespace Sys2Proof.Machine

/-- The byte at an address; an unlisted address reads 0. -/
def Memory.read : Memory → Nat → Byte
  | [], _ => 0#8
  | (b, w) :: m, a => if b = a then w else Memory.read m a

/-- Put a byte at an address and keep the canonical form: a 0 is not listed. -/
def Memory.write : Memory → Nat → Byte → Memory
  | [], a, v => if v = 0#8 then [] else [(a, v)]
  | (b, w) :: m, a, v =>
    if a < b then (if v = 0#8 then (b, w) :: m else (a, v) :: (b, w) :: m)
    else if a = b then (if v = 0#8 then m else (a, v) :: m)
    else (b, w) :: Memory.write m a v

/-- The memory with the given bytes at the given addresses, in canonical form; of two bytes at one address the first
counts. -/
def Memory.ofList : List Host.Cell → Memory
  | [] => []
  | (a, v) :: l => Memory.write (Memory.ofList l) a v

/-- The key in ENV-ECHO's memory of register `reg` of device `dev` (R35). -/
def cellKey (dev : DevAddr) (reg : Byte) : Nat := dev.toNat * 256 + reg.toNat

/-- `mem(dev, reg)` (R52). -/
def EchoEnv.readCell (e : EchoEnv) (dev : DevAddr) (reg : Byte) : Byte := Memory.read e.mem (cellKey dev reg)

/-- `mem(dev, reg) <- v` (R56). -/
def EchoEnv.writeCell (e : EchoEnv) (dev : DevAddr) (reg v : Byte) : EchoEnv :=
  { e with mem := Memory.write e.mem (cellKey dev reg) v }

/-- `ptr(dev)` (R52). -/
def EchoEnv.readPtr (e : EchoEnv) (dev : DevAddr) : Byte := Memory.read e.ptr dev.toNat

/-- `ptr(dev) <- v` (R56). -/
def EchoEnv.writePtr (e : EchoEnv) (dev : DevAddr) (v : Byte) : EchoEnv :=
  { e with ptr := Memory.write e.ptr dev.toNat v }

/-- R52: ENV-ECHO as it starts, all nine flags 0. `present`, `mem0` and `ptr0` are the rule's parameters, a register or
pointer not named starting at 0; the rule states no first value for `sel`, `nbytes` and `rx_data`, so these are
parameters too. Log entry 8. -/
def EchoEnv.initial (present : List DevAddr) (mem0 : List ((DevAddr × Byte) × Byte)) (ptr0 : List (DevAddr × Byte))
    (sel : Option (DevAddr × Dir)) (nbytes : Nat) (rxData : Byte) : EchoEnv :=
  { present := present
    mem := Memory.ofList (mem0.map fun c => (cellKey c.1.1 c.1.2, c.2))
    ptr := Memory.ofList (ptr0.map fun c => (c.1.toNat, c.2))
    sel := sel
    nbytes := nbytes
    flags := FlagSample.ofPorts 0#9 rxData }

/-- R58: ENV-SCRIPT as it starts: no transaction accepted yet, no poll made. -/
def ScriptEnv.initial (rows : List ScriptRow) : ScriptEnv := { rows := rows, txn := 0, polls := 0 }

/-- R53, `CONFIGURE`: all nine flags 0, nothing selected. -/
def EchoEnv.onConfigure (e : EchoEnv) : EchoEnv :=
  { e with flags := FlagSample.ofPorts 0#9 e.flags.rxData, sel := none }

/-- R54, `START`, first or repeated. -/
def EchoEnv.onStart (e : EchoEnv) : EchoEnv :=
  { e with flags := { e.flags with busy := true, evMs := true, evTxsel := false, evTxing := false, btf := false } }

/-- R55, `SEND_ADDR`: a present device is selected and answers, an absent one leaves a stale `af`. -/
def EchoEnv.onSendAddr (e : EchoEnv) (b : Byte) : EchoEnv :=
  let a := addressByteDev b
  let d := addressByteDir b
  if e.present.contains a then
    match d with
    | .write => { e with sel := some (a, d), nbytes := 0, flags := { e.flags with evMs := false, evTxsel := true } }
    | .read => { e with sel := some (a, d), nbytes := 0, flags := { e.flags with evMs := false, addr := true } }
  else { e with sel := none, flags := { e.flags with evMs := false, af := true } }

/-- The register cell that the next `SEND_DATA` stores to, if it stores (R56): the selected device's, at its pointer,
once the register-address byte has come. -/
def EchoEnv.storeTarget (e : EchoEnv) : Option (DevAddr × Byte) :=
  match e.sel with
  | some (a, .write) => if e.nbytes = 0 then none else some (a, e.readPtr a)
  | some (_, .read) => none
  | none => none

/-- R56, `SEND_DATA`: the first byte sets the pointer, later bytes are stored; no auto-increment. -/
def EchoEnv.onSendData (e : EchoEnv) (b : Byte) : EchoEnv :=
  match e.sel with
  | some (a, .write) =>
    let stored := match e.storeTarget with
      | some (dev, reg) => e.writeCell dev reg b
      | none => e.writePtr a b
    { stored with nbytes := e.nbytes + 1, flags := { e.flags with evTxsel := false, evTxing := true, btf := true } }
  | some (_, .read) => { e with flags := { e.flags with evTxsel := false } }
  | none => { e with flags := { e.flags with evTxsel := false } }

/-- R57, `CLEAR_ADDR`: a device selected in receiver direction supplies its byte. -/
def EchoEnv.onClearAddr (e : EchoEnv) : EchoEnv :=
  match e.sel with
  | some (a, .read) =>
    { e with flags := { e.flags with addr := false, rxData := e.readCell a (e.readPtr a), rxne := true } }
  | some (_, .write) => { e with flags := { e.flags with addr := false } }
  | none => { e with flags := { e.flags with addr := false } }

/-- R57, `STOP`: complete before the next sample. -/
def EchoEnv.onStop (e : EchoEnv) : EchoEnv :=
  { e with
    sel := none
    flags := { e.flags with busy := false, evMs := false, evTxsel := false, evTxing := false, btf := false, stopf := false } }

/-- ENV-ECHO's answer to one action (R53 to R57). -/
def EchoEnv.onAction (e : EchoEnv) : Action → EchoEnv
  | .configure => e.onConfigure
  | .ackDisable => e
  | .ackEnable => e
  | .clearAddr => e.onClearAddr
  | .start => e.onStart
  | .stop => e.onStop
  | .sendAddr b => e.onSendAddr b
  | .sendData b => e.onSendData b
  | .readData => { e with flags := { e.flags with rxne := false } }
  | .clearAf => { e with flags := { e.flags with af := false } }

/-- R58: whether `j >= s(t, k)` at the coming poll, the `polls + 1`-th of its phase. -/
def ScriptEnv.answers (e : ScriptEnv) (row : ScriptRow) (p : Pc) : Bool :=
  match row.firstTrue[p.ph.toNat]'p.ph.isLt with
  | some j => decide (j ≤ e.polls + 1)
  | none => false

/-- R58: the sample ENV-SCRIPT gives in state `p`; every flag but the awaited one is arbitrary, here as in `draw`. A
transaction past the script's rows is unconstrained. -/
def ScriptEnv.sample (e : ScriptEnv) (p : Pc) (draw : FlagSample) : FlagSample :=
  match e.rows[e.txn - 1]? with
  | some row => { draw.withCond p (e.answers row p) with rxData := row.byte }
  | none => draw

/-- The environment after one action of the CORE (R42). -/
def Env.onAction (env : Env) (a : Action) : Env :=
  match env with
  | .oracle fs => .oracle fs
  | .echo e => .echo (e.onAction a)
  | .script e => .script e

/-- The environment after it has given a sample. -/
def Env.onSample : Env → Env
  | .oracle fs => .oracle fs.tail
  | .echo e => .echo e
  | .script e => .script { e with polls := e.polls + 1 }

/-- The environment when the CORE enters a wait: ENV-SCRIPT counts the polls of each phase from 1 (R58). -/
def Env.onEnterWait : Env → Env
  | .oracle fs => .oracle fs
  | .echo e => .echo e
  | .script e => .script { e with polls := 0 }

/-- The environment when the CORE accepts a transaction: ENV-SCRIPT counts transactions since reset (R58). -/
def Env.onTransaction : Env → Env
  | .oracle fs => .oracle fs
  | .echo e => .echo e
  | .script e => .script { e with txn := e.txn + 1 }

/-- The environment when the CORE is reset: the reset does not reach it (R137, R138); ENV-SCRIPT's transactions are
counted since reset (R58). -/
def Env.onReset : Env → Env
  | .oracle fs => .oracle fs
  | .echo e => .echo e
  | .script e => .script { e with txn := 0, polls := 0 }

/-- A device register as the environment holds it, where it holds device registers at all (R28). -/
def Env.readCell (env : Env) (dev : DevAddr) (reg : Byte) : Option Byte :=
  match env with
  | .echo e => some (e.readCell dev reg)
  | .oracle _ => none
  | .script _ => none

end Sys2Proof.Machine
end

