-- ==== Sys2Proof/Machine/Ops.lean ====
section
/-! DEFINITION. The named operations over the state: the register writes, the sample of a step, emitting an action,
responding, taking an exception (60_exceptions.md R120, R124), the failing poll (40_sequencer_common.md R83), entering a
wait (R84 (a)) and reset (70_reset_and_hazards.md R135). There is no return from an exception (R127): the timeout ends in
the idle state, from which the next command is accepted like any other. -/

namespace Sys2Proof.Machine

/-- `pc <- p`. -/
def State.setPc (s : State) (p : Pc) : State := { s with pc := p }
/-- `x[CNT] <- v`. -/
def State.setCnt (s : State) (v : Word) : State := { s with cnt := v }
/-- `x[DEV] <- v`. -/
def State.setDev (s : State) (v : DevAddr) : State := { s with dev := v }
/-- `x[REG] <- v`. -/
def State.setReg (s : State) (v : Byte) : State := { s with reg := v }
/-- `x[DAT] <- v`. -/
def State.setDat (s : State) (v : Byte) : State := { s with dat := v }
/-- `x[RES] <- v`. -/
def State.setRes (s : State) (v : Byte) : State := { s with res := v }
/-- `x[ACK_EN] <- b`. -/
def State.setAckEn (s : State) (b : Bool) : State := { s with ackEn := b }
/-- `x[INITD] <- b`. -/
def State.setInitd (s : State) (b : Bool) : State := { s with initd := b }
/-- The outputs of the step in progress. -/
def State.setOut (s : State) (o : Outputs) : State := { s with out := o }
/-- The host's coming inputs. -/
def State.setHost (s : State) (h : List HostInput) : State := { s with host := h }
/-- The environment. -/
def State.setEnv (s : State) (e : Env) : State := { s with env := e }
/-- The number of the next free draw. -/
def State.setDraws (s : State) (n : Nat) : State := { s with draws := n }

/-- The level output `ack_en`: `x[ACK_EN]` at all times (R44). -/
def State.ackEnLevel (s : State) : Bool := s.ackEn

/-- The host's input of the coming step (R80). -/
def State.hostNow (s : State) : HostInput :=
  match s.host with
  | [] => HostInput.quiet
  | i :: _ => i

/-- `cmd_ready` in the coming step: exactly when `pc = IDLE` and `rst` is not asserted (R61). -/
def State.cmdReady (s : State) : Bool := decide (s.pc = .idle) && !s.hostNow.rst

/-- Start a step: the host's input is taken off, and the last step's outputs are gone (R30). -/
def State.beginStep (s : State) : State := (s.setHost s.host.tail).setOut Outputs.none

/-- The free draw of a flag sample (R41, R51). -/
def State.drawnSample (s : State) : FlagSample :=
  FlagSample.ofPorts (Config.flagsDraw s.draws) (Config.rxDraw s.draws)

/-- The flag sample `F` that the environment gives if the coming step takes one (R41, R52, R58). -/
def State.sample (s : State) : FlagSample :=
  match s.env with
  | .oracle [] => s.drawnSample
  | .oracle (f :: _) => f
  | .echo e => e.flags
  | .script e => e.sample s.pc s.drawnSample

/-- The state once its sample has been taken: one sample per active step (R41). -/
def State.sampled (s : State) : State := (s.setEnv s.env.onSample).setDraws (s.draws + 1)

/-- `emit A` (00_scope.md section 5): appended to the step's action list, and applied by the environment in that order
(R42, R52). -/
def State.emit (s : State) (a : Action) : State :=
  (s.setOut { s.out with actions := s.out.actions ++ [a] }).setEnv (s.env.onAction a)

/-- `respond(data, status, phase)` (R66). -/
def State.respond (s : State) (data : Word) (status : Status) (phase : Phase) : State :=
  s.setOut { s.out with rsp := some { data := data, status := status, phase := phase } }

/-- `diag(dir, ph)` (R69). -/
def State.diagnose (s : State) (dir : Dir) (phase : Phase) : State :=
  s.setOut { s.out with diag := some { dir := dir, phase := phase } }

/-- Enter the wait `p` with a fresh budget (R84 (a)). -/
def State.enterWait (s : State) (p : Pc) : State :=
  ((s.setPc p).setCnt Config.nTimeout).setEnv s.env.onEnterWait

/-- Accept a transaction: its latches are written by the caller, its first wait is entered (R90, R96, R108). -/
def State.beginTransaction (s : State) (p : Pc) : State :=
  (s.setEnv s.env.onTransaction).enterWait p

/-- A command ends well: its OK response, and back to the idle state (R67, R104, R113). -/
def State.finish (s : State) (data : Word) : State := (s.respond data .ok 0#3).setPc .idle

/-- `raise CommandRefused(reason)` (R120): no action, no register written, the response `(0, REFUSED, 0)`; the reason is
not reported. -/
def State.raiseRefused (s : State) (_reason : RefuseReason) : State := s.respond 0#32 .refused 0#3

/-- `raise TimeoutExceeded(DIR, PH)` (R124): one diagnostic, the sentinel response, back to the idle state, and nothing
else (R125). -/
def State.raiseTimeout (s : State) : State :=
  ((s.diagnose s.pc.dir s.pc.ph).respond Config.sentinel .timeout s.pc.ph).setPc .idle

/-- R83: a poll whose condition is false. -/
def State.pollFail (s : State) : State :=
  if s.cnt = 1#32 then s.raiseTimeout else s.setCnt (s.cnt - 1#32)

/-- R135: the step in which `rst` is asserted. The registers R31 leaves unspecified take free values. -/
def State.resetStep (s : State) : State :=
  { s with
    pc := .idle
    cnt := Config.resetCnt s.draws
    dev := Config.resetDev s.draws
    reg := Config.resetReg s.draws
    dat := Config.resetDat s.draws
    res := Config.resetRes s.draws
    ackEn := false
    initd := false
    out := Outputs.none
    env := s.env.onReset
    draws := s.draws + 1 }

/-- The machine right after reset, in a given environment (R31, R51): the one `State.reset` itself has is the oracle with
nothing listed. -/
def State.resetIn (env : Env) : State := State.reset.setEnv env

/-- R89: the idle step changes nothing. -/
def State.idleStep (s : State) : State := s

/-- R61: a command takes effect in the step it is accepted in, which needs `pc = IDLE`; a command presented while a
transaction is in flight is not accepted and has no effect. -/
def State.whenAccepted (s : State) (effect : State → State) : Host.Outcome State Fault Refusal :=
  if s.pc = .idle then .next (effect s) else .next s

end Sys2Proof.Machine
end

