-- ==== Sys2Proof/Machine/ReadByte.lean ====
section
/-! DEFINITION. The RDB command (42_read_byte.md): its acceptance (R96) and the exits of its eight waits (R97 to R104). -/

namespace Sys2Proof.Machine

/-- R96 for an accepted RDB with `INITD = 1`. -/
def State.readEffect (s : State) (addr : DevAddr) (reg : Byte) : State :=
  ((s.setDev addr).setReg reg).beginTransaction .r0

/-- RDB: R96, and the refusal before INIT (R120). The transaction goes on poll by poll from `r0`. -/
def execRdb (addr : DevAddr) (reg : Byte) (s : State) : Host.Outcome State Fault Refusal :=
  s.whenAccepted fun s => if s.initd then s.readEffect addr reg else s.raiseRefused .notInitialized

/-- R97. -/
def State.exitR0 (s : State) : State := (s.emit .start).enterWait .r1

/-- R98: the device address in transmitter direction. -/
def State.exitR1 (s : State) : State := (s.emit (.sendAddr (addressByte s.dev .write))).enterWait .r2

/-- R99: the register address as data. -/
def State.exitR2 (s : State) : State := (s.emit (.sendData s.reg)).enterWait .r3

/-- R100: the repeated START. -/
def State.exitR3 (s : State) : State := (s.emit .start).enterWait .r4

/-- R101: the device address in receiver direction. -/
def State.exitR4 (s : State) : State := (s.emit (.sendAddr (addressByte s.dev .read))).enterWait .r5

/-- R102: acknowledge off, then clear the address condition, then STOP. -/
def State.exitR5 (s : State) : State :=
  ((((s.setAckEn false).emit .ackDisable).emit .clearAddr).emit .stop).enterWait .r6

/-- R103: the byte of this step's sample is captured. -/
def State.exitR6 (s : State) (f : FlagSample) : State :=
  ((s.setRes f.rxData).emit .readData).enterWait .r7

/-- R104: acknowledge on again, the stale failure flag cleared, the byte returned. -/
def State.exitR7 (s : State) : State :=
  (((s.setAckEn true).emit .ackEnable).emit .clearAf).finish (resultWord s.res)

end Sys2Proof.Machine
end

