-- ==== Sys2Proof/Machine/WriteByte.lean ====
section
/-! DEFINITION. The WRB command (43_write_byte.md): its acceptance (R108) and the exits of its five waits (R109 to R113).
There is no wait for the STOP to finish (R116). -/

namespace Sys2Proof.Machine

/-- R108 for an accepted WRB with `INITD = 1`. -/
def State.writeEffect (s : State) (addr : DevAddr) (reg val : Byte) : State :=
  (((s.setDev addr).setReg reg).setDat val).beginTransaction .w0

/-- WRB: R108, and the refusal before INIT (R120). The transaction goes on poll by poll from `w0`. -/
def execWrb (addr : DevAddr) (reg val : Byte) (s : State) : Host.Outcome State Fault Refusal :=
  s.whenAccepted fun s => if s.initd then s.writeEffect addr reg val else s.raiseRefused .notInitialized

/-- R109. -/
def State.exitW0 (s : State) : State := (s.emit .start).enterWait .w1

/-- R110: the device address in transmitter direction. -/
def State.exitW1 (s : State) : State := (s.emit (.sendAddr (addressByte s.dev .write))).enterWait .w2

/-- R111: the register address as data. -/
def State.exitW2 (s : State) : State := (s.emit (.sendData s.reg)).enterWait .w3

/-- R112: the value byte. -/
def State.exitW3 (s : State) : State := (s.emit (.sendData s.dat)).enterWait .w4

/-- R113: STOP, and the answer in the same step. -/
def State.exitW4 (s : State) : State := (s.emit .stop).finish 0#32

end Sys2Proof.Machine
end

