-- ==== Sys2Proof/Machine/Cycle.lean ====
section
/-! DEFINITION. One step of the CORE (40_sequencer_common.md R80), over a given meaning of the commands, and the host
offering a command. -/

namespace Sys2Proof.Machine

/-- R80 case 4, `Exit(pc, F)`: the exit of the current wait (R88). There is no wait in the idle state. -/
def State.exitWait (s : State) (f : FlagSample) : State :=
  match s.pc with
  | .idle => s
  | .w0 => s.exitW0
  | .w1 => s.exitW1
  | .w2 => s.exitW2
  | .w3 => s.exitW3
  | .w4 => s.exitW4
  | .r0 => s.exitR0
  | .r1 => s.exitR1
  | .r2 => s.exitR2
  | .r3 => s.exitR3
  | .r4 => s.exitR4
  | .r5 => s.exitR5
  | .r6 => s.exitR6 f
  | .r7 => s.exitR7

/-- R80 case 4: one poll on the sample `f`; the condition is looked at before the counter (R84 (d)). -/
def State.pollOn (s : State) (f : FlagSample) : State :=
  if waitCond s.pc f then s.exitWait f else s.pollFail

/-- R80 case 4 with this step's sample (R41). -/
def State.poll (s : State) : State := s.sampled.pollOn s.sample

/-- R90: accept a command word; an illegal one is refused (R68, R120). -/
def State.accept (s : State) (run : Instr → State → Host.Outcome State Fault Refusal) (w : Word) :
    Host.Outcome State Fault Refusal :=
  match decode w with
  | .ok i => run i s
  | .error _ => .next (s.raiseRefused .illegalEncoding)

/-- R80: the five cases of a step, in their order. -/
def stepWith (run : Instr → State → Host.Outcome State Fault Refusal) (s : State) :
    Host.Outcome State Fault Refusal :=
  if s.hostNow.rst then .next s.beginStep.resetStep
  else if s.pc = .idle then
    match s.hostNow.cmd with
    | none => .next s.beginStep.idleStep
    | some w => s.beginStep.accept run w
  else .next s.beginStep.poll

/-- The host offers `w` in the coming step, and the CORE is able to accept it (R61: `pc = IDLE`, `rst` not asserted). -/
def State.offer (s : State) (w : Word) : State :=
  (s.setPc .idle).setHost ({ rst := false, cmd := some w } :: s.host.tail)

end Sys2Proof.Machine
end

