-- ==== Sys2Proof/Machine/Initialize.lean ====
section
/-! DEFINITION. The INIT command (41_initialize.md R93 to R95). -/

namespace Sys2Proof.Machine

/-- R93 for an accepted INIT with `INITD = 0`. -/
def State.initEffect (s : State) : State :=
  (((s.emit .configure).setAckEn true).setInitd true).respond 0#32 .ok 0#3

/-- INIT: R93, and the refusal R94 when it is repeated. -/
def execInit (s : State) : Host.Outcome State Fault Refusal :=
  s.whenAccepted fun s => if s.initd then s.raiseRefused .initRepeated else s.initEffect

end Sys2Proof.Machine
end

