-- ==== Sys2Proof/Machine/Dispatch.lean ====
section
/-! DEFINITION. What an accepted command does: one arm per command. -/

namespace Sys2Proof.Machine

/-- The acceptance step of a decoded command (40_sequencer_common.md R90). -/
def exec (i : Instr) (s : State) : Host.Outcome State Fault Refusal :=
  match i with
  | .init => Sys2Proof.Machine.execInit s
  | .wrb addr reg val => Sys2Proof.Machine.execWrb addr reg val s
  | .rdb addr reg => Sys2Proof.Machine.execRdb addr reg s

end Sys2Proof.Machine
end

