-- ==== Sys2Proof/Machine/Step.lean ====
section
/-! DEFINITION. The step function (40_sequencer_common.md R80) and where a command is offered. -/

namespace Sys2Proof.Machine

/-- One step of the CORE (R80). -/
def step (s : State) : Host.Outcome State Fault Refusal := stepWith exec s

/-- The state in which the host offers a table row's word to a CORE that can accept it, so that the next step runs it. -/
def State.withFetchWord (s : State) (nbits w : Nat) : State := s.offer (tableWord nbits w)

end Sys2Proof.Machine
end

