-- ==== Sys2Proof/Safety.lean ====
section
/-! DEFINITION. The terms claims are made in: the named premises (40_sequencer_common.md R158), the invariant of reachable
states (10_state.md R32), the relation between states that differ only in dead latches (R18), and runs with their traces. -/

namespace Sys2Proof.Machine

/-- `Quiescent`: `pc = IDLE` (R158). -/
abbrev State.Quiescent (s : State) : Prop := s.pc = .idle

/-- `Initialised`: `INITD = 1` (R158). -/
abbrev State.Initialised (s : State) : Prop := s.initd = true

/-- `AckSteady`: `ACK_EN = 1` (R158). -/
abbrev State.AckSteady (s : State) : Prop := s.ackEn = true

/-- `Ready` (R158). -/
abbrev State.Ready (s : State) : Prop := s.Quiescent ∧ s.Initialised ∧ s.AckSteady

/-- `EchoBusFree`, of ENV-ECHO (R158). -/
abbrev EchoEnv.BusFree (e : EchoEnv) : Prop := e.flags.busy = false ∧ e.sel = none

/-- ENV-ECHO's memory and pointers are in canonical form. -/
abbrev EchoEnv.wf (e : EchoEnv) : Prop := Memory.wf e.mem ∧ Memory.wf e.ptr

/-- What the environment holds is in canonical form. -/
def Env.wf : Env → Prop
  | .oracle _ => True
  | .echo e => e.wf
  | .script _ => True

/-- R32 (b), (c) and (f): what holds of the CORE's registers in every reachable state, whatever the environment does.
R32 (a) is the type of `pc`. -/
structure State.Reachable (s : State) : Prop where
  /-- R32 (b). -/
  active_initd : s.pc ≠ .idle → s.initd = true
  /-- R32 (b). -/
  active_cnt_pos : s.pc ≠ .idle → 1 ≤ s.cnt.toNat
  /-- R32 (b). -/
  active_cnt_le : s.pc ≠ .idle → s.cnt.toNat ≤ Config.nTimeout.toNat
  /-- R32 (c). -/
  ack_window : s.pc = .r6 ∨ s.pc = .r7 → s.ackEn = false
  /-- R32 (f). -/
  uninit : s.initd = false → s.ackEn = false ∧ s.pc = .idle

/-- The CORE's ten registers agree. -/
structure State.SameCore (s t : State) : Prop where
  pc : t.pc = s.pc
  cnt : t.cnt = s.cnt
  dev : t.dev = s.dev
  reg : t.reg = s.reg
  dat : t.dat = s.dat
  res : t.res = s.res
  ackEn : t.ackEn = s.ackEn
  initd : t.initd = s.initd

/-- The four latches agree. -/
structure State.SameLatches (s t : State) : Prop where
  dev : t.dev = s.dev
  reg : t.reg = s.reg
  dat : t.dat = s.dat
  res : t.res = s.res

/-- R18: two states that agree on everything but latches (and `CNT`) that no coming step can read. -/
structure State.SameButDeadLatches (s t : State) : Prop where
  pc : t.pc = s.pc
  ackEn : t.ackEn = s.ackEn
  initd : t.initd = s.initd
  out : t.out = s.out
  host : t.host = s.host
  env : t.env = s.env
  draws : t.draws = s.draws
  /-- During a transaction `CNT`, `DEV` and `REG` are alive. -/
  active : s.pc ≠ .idle → t.cnt = s.cnt ∧ t.dev = s.dev ∧ t.reg = s.reg
  /-- `DAT` is alive during a write (R16). -/
  write : s.pc ≠ .idle → s.pc.dir = .write → t.dat = s.dat
  /-- `RES` is alive between the exits of `R6` and `R7` (R17). -/
  captured : s.pc = .r7 → t.res = s.res

/-- What leaving a wait for the next one does (R84 (a), R88): the actions go out in order and reach the environment, the
budget is fresh, and nothing else of the CORE changes. -/
structure State.LeavesWait (s t : State) (acts : List Action) (p : Pc) : Prop where
  out : t.out = { actions := acts, rsp := none, diag := none }
  env : t.env = (acts.foldl Env.onAction s.env.onSample).onEnterWait
  pc : t.pc = p
  cnt : t.cnt = Config.nTimeout
  dev : t.dev = s.dev
  reg : t.reg = s.reg
  dat : t.dat = s.dat
  res : t.res = s.res
  ackEn : t.ackEn = s.ackEn
  initd : t.initd = s.initd

/-- What `TimeoutExceeded(d, k)` does (R124, R125): one diagnostic, the sentinel, the idle state; no action, no other
register, nothing asked of the environment. -/
structure State.TimesOut (s t : State) (d : Dir) (k : Phase) : Prop where
  out : t.out = { actions := [], rsp := some { data := 0#32, status := .timeout, phase := k },
                  diag := some { dir := d, phase := k } }
  env : t.env = s.env.onSample
  pc : t.pc = .idle
  cnt : t.cnt = s.cnt
  dev : t.dev = s.dev
  reg : t.reg = s.reg
  dat : t.dat = s.dat
  res : t.res = s.res
  ackEn : t.ackEn = s.ackEn
  initd : t.initd = s.initd

/-- What `CommandRefused` does (R120): no action, no diagnostic, no register, nothing asked of the environment, and the
response `(0, REFUSED, 0)`. -/
structure State.IsRefused (s t : State) : Prop where
  core : s.SameCore t
  env : t.env = s.env
  actions : t.out.actions = s.out.actions
  diag : t.out.diag = s.out.diag
  rsp : t.out.rsp = some { data := 0#32, status := .refused, phase := 0#3 }

/-- The step is a poll in state `p`: `rst` is not asserted (R80 case 4). -/
abbrev State.PollsIn (s : State) (p : Pc) : Prop := s.hostNow.rst = false ∧ s.pc = p

/-- The step accepts the word `w` (R61, R80 case 3). -/
abbrev State.Accepts (s : State) (w : Word) : Prop :=
  s.hostNow.rst = false ∧ s.pc = .idle ∧ s.hostNow.cmd = some w

/-- The host asserts `rst` in none of the coming `k` steps. -/
def State.noReset (s : State) (k : Nat) : Prop := ∀ i ∈ s.host.take k, i.rst = false

/-- `k` steps, with the actions they emit in order: the transaction-phase trace a test bench records (R30, R134). -/
def runTrace : Nat → State → Option (List Action × State)
  | 0, s => some ([], s)
  | k + 1, s =>
    match step s with
    | .next t =>
      match runTrace k t with
      | some (rest, u) => some (t.out.actions ++ rest, u)
      | none => none
    | .fault _ => none
    | .refused _ => none

/-- No step among the first `k` leads from `s` back to the idle state before the `k`-th is done. -/
def State.busyFor (s : State) (k : Nat) : Prop :=
  ∀ j, j < k → ∀ u : State, Host.Core.run core j s = .next u → u.pc ≠ .idle

/-- The actions a read has emitted once it has come to the wait `p` (R105). -/
def readTraceBefore (dev : DevAddr) (reg : Byte) : Pc → List Action
  | .r1 => [.start]
  | .r2 => [.start, .sendAddr (addressByte dev .write)]
  | .r3 => [.start, .sendAddr (addressByte dev .write), .sendData reg]
  | .r4 => [.start, .sendAddr (addressByte dev .write), .sendData reg, .start]
  | .r5 => [.start, .sendAddr (addressByte dev .write), .sendData reg, .start, .sendAddr (addressByte dev .read)]
  | .r6 => [.start, .sendAddr (addressByte dev .write), .sendData reg, .start, .sendAddr (addressByte dev .read),
      .ackDisable, .clearAddr, .stop]
  | .r7 => [.start, .sendAddr (addressByte dev .write), .sendData reg, .start, .sendAddr (addressByte dev .read),
      .ackDisable, .clearAddr, .stop, .readData]
  | .r0 | .idle | .w0 | .w1 | .w2 | .w3 | .w4 => []

/-- The eleven actions of a successful read (R106). -/
def readTraceWhole (dev : DevAddr) (reg : Byte) : List Action :=
  [.start, .sendAddr (addressByte dev .write), .sendData reg, .start, .sendAddr (addressByte dev .read),
    .ackDisable, .clearAddr, .stop, .readData, .ackEnable, .clearAf]

/-- The actions a write has emitted once it has come to the wait `p` (R114). -/
def writeTraceBefore (dev : DevAddr) (reg dat : Byte) : Pc → List Action
  | .w1 => [.start]
  | .w2 => [.start, .sendAddr (addressByte dev .write)]
  | .w3 => [.start, .sendAddr (addressByte dev .write), .sendData reg]
  | .w4 => [.start, .sendAddr (addressByte dev .write), .sendData reg, .sendData dat]
  | .w0 | .idle | .r0 | .r1 | .r2 | .r3 | .r4 | .r5 | .r6 | .r7 => []

/-- The five actions of a successful write (R115). -/
def writeTraceWhole (dev : DevAddr) (reg dat : Byte) : List Action :=
  [.start, .sendAddr (addressByte dev .write), .sendData reg, .sendData dat, .stop]

/-- The read wait with phase ordinal `k` (R119). -/
def readWait (k : Phase) : Pc :=
  if k = 0#3 then .r0 else if k = 1#3 then .r1 else if k = 2#3 then .r2 else if k = 3#3 then .r3
  else if k = 4#3 then .r4 else if k = 5#3 then .r5 else if k = 6#3 then .r6 else .r7

/-- The write wait with phase ordinal `k`, for the five that a write has (R119). -/
def writeWait (k : Phase) : Pc :=
  if k = 0#3 then .w0 else if k = 1#3 then .w1 else if k = 2#3 then .w2 else if k = 3#3 then .w3 else .w4

end Sys2Proof.Machine
end

