-- ==== Sys2Proof/Certificates/Slice0/Obligations.lean ====
section
/-! DEFINITION. The statements for the provers, each a proposition about the model; the docstring names the rule of spec/
it formalises. A claim that rests on log entry 2 (a refused command is a next state with its REFUSED answer) says so. -/

open Sys2Proof Sys2Proof.Machine

/-! ## Words -/

/-- R63, R64, R65 and R68: words written out from the encodings (vectors V1, V2, V3, V5, V7, V8, V12, V13, V14). -/
def Obligations.SampleWordsDecode : Prop :=
  decode 0x01000000#32 = .ok .init ∧
  decode 0x022A200F#32 = .ok (.wrb 0x2A#7 0x20#8 0x0F#8) ∧
  decode 0x032A2000#32 = .ok (.rdb 0x2A#7 0x20#8) ∧
  decode 0x027FFFFF#32 = .ok (.wrb 0x7F#7 0xFF#8 0xFF#8) ∧
  decode 0x037FFF00#32 = .ok (.rdb 0x7F#7 0xFF#8) ∧
  decode 0x00000000#32 = .error .opcReserved ∧
  decode 0x032A2001#32 = .error .rdbValueNotZero ∧
  decode 0x02800000#32 = .error .rsv0NotZero ∧
  decode 0x06000000#32 = .error .rsv1NotZero

/-- R62 to R65 and R74: every command's word decodes to that command, whatever its operands. -/
def Obligations.DecodeEncodeRoundTrip : Prop :=
  ∀ i : Instr, decode (encode i) = .ok i

/-- R74: a legal word is the only word of its command. -/
def Obligations.EncodeDecodeRoundTrip : Prop :=
  ∀ (w : Word) (i : Instr), decode w = .ok i → encode i = w

/-- R60, R64, R65: the word of an assembler line is the sum of its shifted operands, and a numeral out of range is
refused. -/
def Obligations.AssembledLineHasItsWord : Prop :=
  (∀ a r v : Nat, a < 128 → r < 256 → v < 256 →
    ∃ i, (AsmLine.wrb a r v).assemble = some i ∧ (encode i).toNat = 0x02000000 + a * 2 ^ 16 + r * 2 ^ 8 + v) ∧
  (∀ a r : Nat, a < 128 → r < 256 →
    ∃ i, (AsmLine.rdb a r).assemble = some i ∧ (encode i).toNat = 0x03000000 + a * 2 ^ 16 + r * 2 ^ 8) ∧
  (∀ a r v : Nat, 128 ≤ a ∨ 256 ≤ r ∨ 256 ≤ v → (AsmLine.wrb a r v).assemble = none) ∧
  (∀ a r : Nat, 128 ≤ a ∨ 256 ≤ r → (AsmLine.rdb a r).assemble = none)

/-- R68: which words are illegal, and what accepting one does. That an accepted illegal word leads to a next state with the
REFUSED answer is the model's choice (log entry 2): R120 gives the effect and advises a model to refuse the case. -/
def Obligations.IllegalWordsAreRefused : Prop :=
  (∀ w : Word, (∃ e, decode w = .error e) ↔
    w.rsv1 ≠ 0#6 ∨ w.rsv0 ≠ 0#1 ∨ w.opc = 0#2 ∨ (w.opc = 1#2 ∧ w.extractLsb' 0 24 ≠ 0#24) ∨
      (w.opc = 3#2 ∧ w.val8 ≠ 0#8)) ∧
  (∃ e, decode 0#32 = .error e) ∧ (∃ e, decode (BitVec.allOnes 32) = .error e) ∧
  ∀ (s : State) (w : Word) (e : Illegal), s.Accepts w → decode w = .error e →
    ∃ t, step s = .next t ∧ s.beginStep.IsRefused t

/-! ## The step -/

/-- R80 case 3, R90: a step that accepts a legal word is the command's meaning, on the state with the host's input
taken off and the last step's outputs gone (R30). -/
def Obligations.StepRunsDecodedInstruction : Prop :=
  ∀ (s : State) (w : Word) (i : Instr), s.Accepts w → decode w = .ok i →
    step s = exec i s.beginStep ∧ s.SameCore s.beginStep ∧ s.beginStep.out = Outputs.none ∧
      s.beginStep.host = s.host.tail ∧ s.beginStep.env = s.env ∧ s.beginStep.draws = s.draws

/-- R61: when a command is accepted, and that a word presented at another time has no effect. The clause about an illegal
word rests on R68 and R120 and on the model's choice of a next state for a refused command (log entry 2). -/
def Obligations.CommandAcceptedOnlyWhenReady : Prop :=
  (∀ s : State, s.cmdReady = true ↔ s.pc = .idle ∧ s.hostNow.rst = false) ∧
  (∀ (s : State) (w : Word) (i : Instr), s.cmdReady = true → s.hostNow.cmd = some w → decode w = .ok i →
    step s = exec i s.beginStep) ∧
  (∀ (s : State) (w : Word) (e : Illegal), s.cmdReady = true → s.hostNow.cmd = some w → decode w = .error e →
    ∃ t, step s = .next t ∧ s.beginStep.IsRefused t) ∧
  (∀ (s : State) (r : Bool) (c c' : Option Word) (rest : List HostInput), s.host = { rst := r, cmd := c } :: rest →
    s.cmdReady = false → step s = step (s.setHost ({ rst := r, cmd := c' } :: rest)))

/-- R92, R121: no state stops the machine. Of refused commands this is the model's choice (log entry 2: R120 advises a
model to refuse them); of the rest it is deduced from the two rules (log entry 18). -/
def Obligations.EveryStepAnswersNext : Prop :=
  ∀ s : State, ∃ t, step s = .next t

/-- R31, R158 `ResetState`: the reset values the spec gives. The values of the latches and `CNT` are the model's choice
(log entry 1) and not stated. -/
def Obligations.ResetLeavesControlClear : Prop :=
  State.reset.pc.bits = 0#5 ∧ State.reset.pc = .idle ∧ State.reset.initd = false ∧ State.reset.ackEn = false

/-- R135: the reset step, whatever the state and the other inputs. -/
def Obligations.ResetStepClearsControl : Prop :=
  ∀ s : State, s.hostNow.rst = true →
    s.cmdReady = false ∧ ∃ t, step s = .next t ∧ t.pc = .idle ∧ t.pc.bits = 0#5 ∧ t.initd = false ∧
      t.ackEn = false ∧ t.ackEnLevel = false ∧ t.out = Outputs.none

/-- R137, R138: a reset in the middle of a transaction emits nothing, answers nothing, and does not reach the
environment. -/
def Obligations.ResetAbortsWithoutCleanUp : Prop :=
  ∀ s : State, s.hostNow.rst = true → s.pc ≠ .idle →
    ∃ t, step s = .next t ∧ t.pc = .idle ∧ t.out.actions = [] ∧ t.out.rsp = none ∧ t.out.diag = none ∧
      (∀ e, s.env = .echo e → t.env = .echo e) ∧ (∀ fs, s.env = .oracle fs → t.env = .oracle fs)

/-- R137, R66: without a reset a transaction leaves its waits only with a response. -/
def Obligations.OnlyResetCancels : Prop :=
  ∀ s t : State, step s = .next t → s.pc ≠ .idle → t.pc = .idle → t.out.rsp = none → s.hostNow.rst = true

/-- R89: the idle step. -/
def Obligations.IdleStepChangesNothing : Prop :=
  ∀ s : State, s.hostNow.rst = false → s.pc = .idle → s.hostNow.cmd = none →
    ∃ t, step s = .next t ∧ s.SameCore t ∧ t.out = Outputs.none ∧ t.env = s.env ∧ t.draws = s.draws

/-! ## The commands -/

/-- R93: INIT completes in its acceptance step. When `INITD = 1` it is refused (R94): that the refusal is a next state is
the model's choice (log entry 2). -/
def Obligations.InitCompletes : Prop :=
  (∀ s : State, s.pc = .idle → s.initd = false →
    ∃ t, exec .init s = .next t ∧
      t.out = { s.out with actions := s.out.actions ++ [.configure]
                           rsp := some { data := 0#32, status := .ok, phase := 0#3 } } ∧
      t.env = s.env.onAction .configure ∧ t.ackEn = true ∧ t.initd = true ∧ t.pc = .idle ∧
      t.cnt = s.cnt ∧ s.SameLatches t) ∧
  (∀ s : State, s.pc = .idle → s.initd = true → ∃ t, exec .init s = .next t ∧ s.IsRefused t)

/-- R96: RDB is accepted after INIT with every operand. Before INIT it is refused (R120): that the refusal is a next state
is the model's choice (log entry 2). -/
def Obligations.RdbAcceptance : Prop :=
  (∀ (s : State) (a : DevAddr) (r : Byte), s.pc = .idle → s.initd = true →
    ∃ t, exec (.rdb a r) s = .next t ∧ t.dev = a ∧ t.reg = r ∧ t.cnt = Config.nTimeout ∧ t.pc = .r0 ∧
      t.pc.bits = 0b11000#5 ∧ t.dat = s.dat ∧ t.res = s.res ∧ t.ackEn = s.ackEn ∧ t.initd = s.initd ∧
      t.out = s.out ∧ t.draws = s.draws ∧ t.env = s.env.onTransaction.onEnterWait) ∧
  (∀ (s : State) (a : DevAddr) (r : Byte), s.pc = .idle → s.initd = false →
    ∃ t, exec (.rdb a r) s = .next t ∧ s.IsRefused t)

/-- R108: WRB is accepted after INIT with every operand. Before INIT it is refused (R120): that the refusal is a next
state is the model's choice (log entry 2). -/
def Obligations.WrbAcceptance : Prop :=
  (∀ (s : State) (a : DevAddr) (r v : Byte), s.pc = .idle → s.initd = true →
    ∃ t, exec (.wrb a r v) s = .next t ∧ t.dev = a ∧ t.reg = r ∧ t.dat = v ∧ t.cnt = Config.nTimeout ∧ t.pc = .w0 ∧
      t.pc.bits = 0b10000#5 ∧ t.res = s.res ∧ t.ackEn = s.ackEn ∧ t.initd = s.initd ∧
      t.out = s.out ∧ t.draws = s.draws ∧ t.env = s.env.onTransaction.onEnterWait) ∧
  (∀ (s : State) (a : DevAddr) (r v : Byte), s.pc = .idle → s.initd = false →
    ∃ t, exec (.wrb a r v) s = .next t ∧ s.IsRefused t)

/-- R120 (and R94, R68): the three reasons for which an accepted word is refused, and that no other word is. That the
refusal is a next state with its answer is the model's choice among the two the rule names (log entry 2). -/
def Obligations.RefusedWordsHaveNoEffect : Prop :=
  ∀ (s : State) (w : Word), s.Accepts w →
    ∃ t, step s = .next t ∧
      (((∃ e, decode w = .error e) ∨ (decode w = .ok .init ∧ s.initd = true) ∨
        ((∃ a r, decode w = .ok (.rdb a r)) ∧ s.initd = false) ∨
        ((∃ a r v, decode w = .ok (.wrb a r v)) ∧ s.initd = false)) → s.beginStep.IsRefused t) ∧
      (t.out.rsp = some { data := 0#32, status := .refused, phase := 0#3 } →
        (∃ e, decode w = .error e) ∨ (decode w = .ok .init ∧ s.initd = true) ∨
        ((∃ a r, decode w = .ok (.rdb a r)) ∧ s.initd = false) ∨
        ((∃ a r v, decode w = .ok (.wrb a r v)) ∧ s.initd = false))

/-- R95: INIT emits nothing that touches the bus: `CONFIGURE`, or nothing where it is refused. -/
def Obligations.InitDoesNotTouchTheBus : Prop :=
  ∀ s t : State, exec .init s = .next t →
    t.out.actions = s.out.actions ∨ t.out.actions = s.out.actions ++ [.configure]

/-- Frame of INIT (R93): registers, inputs, and every device register stay; INIT writes `ACK_EN` and `INITD`. -/
def Obligations.InitFrame : Prop :=
  ∀ s t : State, exec .init s = .next t →
    t.pc = s.pc ∧ t.cnt = s.cnt ∧ s.SameLatches t ∧ t.host = s.host ∧ t.draws = s.draws ∧
      ∀ d r, t.env.readCell d r = s.env.readCell d r

/-- Frame of RDB's acceptance (R96): it writes `DEV`, `REG`, `CNT` and `pc`; every device register stays. -/
def Obligations.RdbFrame : Prop :=
  ∀ (s t : State) (a : DevAddr) (r : Byte), exec (.rdb a r) s = .next t →
    t.dat = s.dat ∧ t.res = s.res ∧ t.ackEn = s.ackEn ∧ t.initd = s.initd ∧ t.host = s.host ∧ t.draws = s.draws ∧
      t.out.actions = s.out.actions ∧ t.out.diag = s.out.diag ∧ ∀ d x, t.env.readCell d x = s.env.readCell d x

/-- Frame of WRB's acceptance (R108): it writes `DEV`, `REG`, `DAT`, `CNT` and `pc`; every device register stays. -/
def Obligations.WrbFrame : Prop :=
  ∀ (s t : State) (a : DevAddr) (r v : Byte), exec (.wrb a r v) s = .next t →
    t.res = s.res ∧ t.ackEn = s.ackEn ∧ t.initd = s.initd ∧ t.host = s.host ∧ t.draws = s.draws ∧
      t.out.actions = s.out.actions ∧ t.out.diag = s.out.diag ∧ ∀ d x, t.env.readCell d x = s.env.readCell d x

/-! ## The waits of a read -/

/-- R97, R98, R99: the first three waits of a read, each with its exit and its timeout; on a free bus START goes out in
the step after the acceptance. -/
def Obligations.ReadSendsRegisterAddress : Prop :=
  (∀ s : State, s.PollsIn .r0 →
    (s.sample.busy = false → ∃ t, step s = .next t ∧ s.LeavesWait t [.start] .r1) ∧
    (s.sample.busy = true → s.cnt = 1#32 → ∃ t, step s = .next t ∧ s.TimesOut t .read 0#3)) ∧
  (∀ s : State, s.PollsIn .r1 →
    (s.sample.evMs = true →
      ∃ t, step s = .next t ∧ s.LeavesWait t [.sendAddr (addressByte s.dev .write)] .r2) ∧
    (s.sample.evMs = false → s.cnt = 1#32 → ∃ t, step s = .next t ∧ s.TimesOut t .read 1#3)) ∧
  (∀ s : State, s.PollsIn .r2 →
    (s.sample.evTxsel = true → ∃ t, step s = .next t ∧ s.LeavesWait t [.sendData s.reg] .r3) ∧
    (s.sample.evTxsel = false → s.cnt = 1#32 → ∃ t, step s = .next t ∧ s.TimesOut t .read 2#3)) ∧
  (∀ (s : State) (a : DevAddr) (r : Byte), s.Accepts (encode (.rdb a r)) → s.initd = true →
    ∃ t, step s = .next t ∧ t.pc = .r0 ∧
      (t.hostNow.rst = false → t.sample.busy = false →
        ∃ u, step t = .next u ∧ u.pc = .r1 ∧ u.out.actions = [.start]))

/-- R100, R101: the repeated START and the address in receiver direction. -/
def Obligations.ReadTurnsTheBusAround : Prop :=
  (∀ s : State, s.PollsIn .r3 →
    (s.sample.btf = true → ∃ t, step s = .next t ∧ s.LeavesWait t [.start] .r4) ∧
    (s.sample.btf = false → s.cnt = 1#32 → ∃ t, step s = .next t ∧ s.TimesOut t .read 3#3)) ∧
  (∀ s : State, s.PollsIn .r4 →
    (s.sample.evMs = true →
      ∃ t, step s = .next t ∧ s.LeavesWait t [.sendAddr (addressByte s.dev .read)] .r5) ∧
    (s.sample.evMs = false → s.cnt = 1#32 → ∃ t, step s = .next t ∧ s.TimesOut t .read 4#3))

/-- R102: acknowledge off, then the address condition cleared, then STOP, all in one step, whatever `ACK_EN` was. -/
def Obligations.ReadDisablesAcknowledge : Prop :=
  ∀ s : State, s.PollsIn .r5 →
    (s.sample.addr = true → ∃ t, step s = .next t ∧
      (s.setAckEn false).LeavesWait t [.ackDisable, .clearAddr, .stop] .r6) ∧
    (s.sample.addr = false → s.cnt = 1#32 → ∃ t, step s = .next t ∧ s.TimesOut t .read 5#3)

/-- R103: the byte of the step's own sample is captured, and no other poll looks at `rx_data`. -/
def Obligations.ReadCapturesByte : Prop :=
  (∀ s : State, s.PollsIn .r6 →
    (s.sample.rxne = true → ∃ t, step s = .next t ∧ (s.setRes s.sample.rxData).LeavesWait t [.readData] .r7) ∧
    (s.sample.rxne = false → s.cnt = 1#32 → ∃ t, step s = .next t ∧ s.TimesOut t .read 6#3)) ∧
  (∀ (s : State) (f : FlagSample) (b : Byte) (rest : List FlagSample), s.hostNow.rst = false → s.pc ≠ .idle →
    (s.pc = .r6 → f.rxne = false) →
    step (s.setEnv (.oracle (f :: rest))) = step (s.setEnv (.oracle ({ f with rxData := b } :: rest))))

/-- R104: the end of a read. -/
def Obligations.ReadReturnsByte : Prop :=
  ∀ s : State, s.PollsIn .r7 →
    (s.sample.stopf = false → ∃ t, step s = .next t ∧
      t.out = { actions := [.ackEnable, .clearAf]
                rsp := some { data := s.res.setWidth 32, status := .ok, phase := 0#3 }, diag := none } ∧
      t.env = [Action.ackEnable, .clearAf].foldl Env.onAction s.env.onSample ∧
      t.ackEn = true ∧ t.pc = .idle ∧ t.cnt = s.cnt ∧ t.initd = s.initd ∧ s.SameLatches t) ∧
    (s.sample.stopf = true → s.cnt = 1#32 → ∃ t, step s = .next t ∧ s.TimesOut t .read 7#3)

/-! ## The waits of a write -/

/-- R109, R110, R111, R112: the first four waits of a write, each with its exit and its timeout. -/
def Obligations.WriteSendsAddressAndValue : Prop :=
  (∀ s : State, s.PollsIn .w0 →
    (s.sample.busy = false → ∃ t, step s = .next t ∧ s.LeavesWait t [.start] .w1) ∧
    (s.sample.busy = true → s.cnt = 1#32 → ∃ t, step s = .next t ∧ s.TimesOut t .write 0#3)) ∧
  (∀ s : State, s.PollsIn .w1 →
    (s.sample.evMs = true →
      ∃ t, step s = .next t ∧ s.LeavesWait t [.sendAddr (addressByte s.dev .write)] .w2) ∧
    (s.sample.evMs = false → s.cnt = 1#32 → ∃ t, step s = .next t ∧ s.TimesOut t .write 1#3)) ∧
  (∀ s : State, s.PollsIn .w2 →
    (s.sample.evTxsel = true → ∃ t, step s = .next t ∧ s.LeavesWait t [.sendData s.reg] .w3) ∧
    (s.sample.evTxsel = false → s.cnt = 1#32 → ∃ t, step s = .next t ∧ s.TimesOut t .write 2#3)) ∧
  (∀ s : State, s.PollsIn .w3 →
    (s.sample.evTxing = true → ∃ t, step s = .next t ∧ s.LeavesWait t [.sendData s.dat] .w4) ∧
    (s.sample.evTxing = false → s.cnt = 1#32 → ∃ t, step s = .next t ∧ s.TimesOut t .write 3#3))

/-- R113: STOP and the answer in one step, whatever `stopf` is; a timeout emits no STOP. -/
def Obligations.WriteStopsAndAnswers : Prop :=
  ∀ s : State, s.PollsIn .w4 →
    (s.sample.btf = true → ∃ t, step s = .next t ∧
      t.out = { actions := [.stop], rsp := some { data := 0#32, status := .ok, phase := 0#3 }, diag := none } ∧
      t.env = s.env.onSample.onAction .stop ∧
      t.pc = .idle ∧ t.cnt = s.cnt ∧ t.ackEn = s.ackEn ∧ t.initd = s.initd ∧ s.SameLatches t) ∧
    (s.sample.btf = false → s.cnt = 1#32 → ∃ t, step s = .next t ∧ s.TimesOut t .write 4#3)

/-! ## Timeouts and the counter -/

/-- R124, R125: the timeout step of any of the thirteen waits. What a timeout leaves alone the spec derives from R124
(R125), and that `ACK_EN` stays 0 after a failed read is its inference (N24). -/
def Obligations.TimeoutEndsTheCommand : Prop :=
  ∀ s : State, s.hostNow.rst = false → s.pc ≠ .idle → waitCond s.pc s.sample = false → s.cnt = 1#32 →
    ∃ t, step s = .next t ∧ s.TimesOut t s.pc.dir s.pc.ph ∧ t.pc.bits = 0#5

/-- R83: the failing poll. -/
def Obligations.FailingPollSpendsTheBudget : Prop :=
  ∀ s : State, s.hostNow.rst = false → s.pc ≠ .idle → waitCond s.pc s.sample = false →
    ∃ t, step s = .next t ∧
      (s.cnt = 1#32 → s.TimesOut t s.pc.dir s.pc.ph) ∧
      (s.cnt ≠ 1#32 → t.cnt = s.cnt - 1#32 ∧ t.pc = s.pc ∧ t.out = Outputs.none ∧ s.SameLatches t ∧
        t.ackEn = s.ackEn ∧ t.initd = s.initd ∧ t.env = s.env.onSample) ∧
      (s.Reachable → s.cnt ≠ 0#32)

/-- R84: who writes `CNT`, and how. -/
def Obligations.TimeoutCounterLaws : Prop :=
  ∀ s t : State, step s = .next t → s.hostNow.rst = false →
    (t.pc ≠ .idle → t.pc ≠ s.pc → t.cnt = Config.nTimeout) ∧
    (t.cnt ≠ s.cnt →
      (t.pc ≠ .idle ∧ t.pc ≠ s.pc) ∨
      (s.pc ≠ .idle ∧ t.pc = s.pc ∧ waitCond s.pc s.sample = false ∧ s.cnt ≠ 1#32 ∧ t.cnt = s.cnt - 1#32)) ∧
    (s.pc ≠ .idle → waitCond s.pc s.sample = true → t.pc = s.pc.next ∧ t.out.diag = none) ∧
    (s.Reachable → t.pc ≠ .idle → 1 ≤ t.cnt.toNat ∧ t.cnt.toNat ≤ Config.nTimeout.toNat)

/-- R85: with `n` polls left (`N_TIMEOUT` at the entry of every wait, R84 (a)), `n` false samples time the wait out in
the `n`-th step, and a first true sample in the `j`-th ends it there. -/
def Obligations.WaitTakesAtMostItsBudget : Prop :=
  (∀ (s : State) (n : Nat), 1 ≤ n → s.pc ≠ .idle → s.cnt.toNat = n →
    (∀ k, k < n → ∀ u : State, Host.Core.run core k s = .next u → u.hostNow.rst = false ∧ waitCond s.pc u.sample = false) →
    (∀ k, k < n → ∃ u : State, Host.Core.run core k s = .next u ∧ u.pc = s.pc ∧ u.cnt.toNat = n - k) ∧
    ∃ t : State, Host.Core.run core n s = .next t ∧ t.pc = .idle ∧
      t.out = { actions := [], rsp := some { data := 0#32, status := .timeout, phase := s.pc.ph },
                diag := some { dir := s.pc.dir, phase := s.pc.ph } }) ∧
  (∀ (s : State) (n j : Nat), s.pc ≠ .idle → s.cnt.toNat = n → j + 1 ≤ n →
    (∀ k, k < j → ∀ u : State, Host.Core.run core k s = .next u → u.hostNow.rst = false ∧ waitCond s.pc u.sample = false) →
    (∀ u : State, Host.Core.run core j s = .next u → u.hostNow.rst = false ∧ waitCond s.pc u.sample = true) →
    ∃ u t : State, Host.Core.run core j s = .next u ∧ u.pc = s.pc ∧ u.cnt.toNat = n - j ∧
      Host.Core.run core (j + 1) s = .next t ∧ t.pc = s.pc.next ∧ t.out.diag = none)

/-- R92, R153: whatever the environment does, a command accepted without a reset answers within its bound, once; a good
answer takes at least one poll for each wait. -/
def Obligations.CommandsAnswerWithinTheirBound : Prop :=
  (∀ (s : State) (a : DevAddr) (r : Byte), s.Accepts (encode (.rdb a r)) → s.initd = true →
    s.noReset (1 + 8 * Config.nTimeout.toNat) →
    ∃ (k : Nat) (t : State) (rsp : Response), k ≤ 1 + 8 * Config.nTimeout.toNat ∧ Host.Core.run core k s = .next t ∧ t.pc = .idle ∧
      t.out.rsp = some rsp ∧ (rsp.status = .ok → 9 ≤ k) ∧
      ∀ j, 1 ≤ j → j < k → ∃ u : State, Host.Core.run core j s = .next u ∧ u.pc ≠ .idle ∧ u.out.rsp = none) ∧
  (∀ (s : State) (a : DevAddr) (r v : Byte), s.Accepts (encode (.wrb a r v)) → s.initd = true →
    s.noReset (1 + 5 * Config.nTimeout.toNat) →
    ∃ (k : Nat) (t : State) (rsp : Response), k ≤ 1 + 5 * Config.nTimeout.toNat ∧ Host.Core.run core k s = .next t ∧ t.pc = .idle ∧
      t.out.rsp = some rsp ∧ (rsp.status = .ok → 6 ≤ k) ∧
      ∀ j, 1 ≤ j → j < k → ∃ u : State, Host.Core.run core j s = .next u ∧ u.pc ≠ .idle ∧ u.out.rsp = none)

/-! ## Who writes what, in any step -/

/-- R21: how `pc` advances. -/
def Obligations.SequencerTransitions : Prop :=
  ∀ s t : State, step s = .next t →
    (s.hostNow.rst = true → t.pc = .idle) ∧
    (s.hostNow.rst = false → s.pc = .idle → s.hostNow.cmd = none → t.pc = .idle) ∧
    (∀ w e, s.Accepts w → decode w = .error e → t.pc = .idle) ∧
    (∀ w, s.Accepts w → decode w = .ok .init → t.pc = .idle) ∧
    (∀ w a r, s.Accepts w → decode w = .ok (.rdb a r) → t.pc = if s.initd then .r0 else .idle) ∧
    (∀ w a r v, s.Accepts w → decode w = .ok (.wrb a r v) → t.pc = if s.initd then .w0 else .idle) ∧
    (s.hostNow.rst = false → s.pc ≠ .idle →
      (waitCond s.pc s.sample = true → t.pc = s.pc.next) ∧
      (waitCond s.pc s.sample = false → s.cnt = 1#32 → t.pc = .idle) ∧
      (waitCond s.pc s.sample = false → s.cnt ≠ 1#32 → t.pc = s.pc)) ∧
    (s.pc ≠ .idle → t.pc ≠ .idle → t.pc ≠ s.pc →
      t.pc.dir = s.pc.dir ∧ t.pc.ph.toNat = s.pc.ph.toNat + 1)

/-- R24: `ACK_EN` is written in three places (and by reset), and nothing in the CORE reads it. -/
def Obligations.AckEnWrittenInThreePlacesAndNeverRead : Prop :=
  (∀ s t : State, step s = .next t → s.hostNow.rst = false → s.pc ≠ .idle →
    t.ackEn = if s.pc = .r5 ∧ waitCond s.pc s.sample = true then false
              else if s.pc = .r7 ∧ waitCond s.pc s.sample = true then true else s.ackEn) ∧
  (∀ s t : State, step s = .next t → s.hostNow.rst = false → s.pc = .idle →
    ((∃ w, s.hostNow.cmd = some w ∧ decode w = .ok .init) ∧ s.initd = false → t.ackEn = true) ∧
    (¬((∃ w, s.hostNow.cmd = some w ∧ decode w = .ok .init) ∧ s.initd = false) → t.ackEn = s.ackEn)) ∧
  (∀ (s t : State) (b : Bool), step s = .next t → ∃ c, step (s.setAckEn b) = .next (t.setAckEn c)) ∧
  (∀ s : State, s.ackEnLevel = s.ackEn)

/-- R44: the strobes go with the writes of `ACK_EN`. -/
def Obligations.AckStrobesGoWithAckEn : Prop :=
  ∀ s t : State, step s = .next t →
    t.ackEnLevel = t.ackEn ∧
    (.ackDisable ∈ t.out.actions ↔ s.PollsIn .r5 ∧ waitCond .r5 s.sample = true) ∧
    (.ackEnable ∈ t.out.actions ↔ s.PollsIn .r7 ∧ waitCond .r7 s.sample = true) ∧
    (.ackDisable ∈ t.out.actions → t.ackEn = false) ∧
    (.ackEnable ∈ t.out.actions → t.ackEn = true) ∧
    (.configure ∈ t.out.actions → t.ackEn = true ∧ .ackEnable ∉ t.out.actions)

/-- R147: acknowledge generation left off by a read that timed out in `R6` or `R7` stays off until a read comes to the
exit of `R7`, or until reset and INIT. -/
def Obligations.AcknowledgeStaysOff : Prop :=
  (∀ s t : State, step s = .next t → s.Reachable → s.hostNow.rst = false → s.pc = .r6 ∨ s.pc = .r7 →
    waitCond s.pc s.sample = false → s.cnt = 1#32 → t.pc = .idle ∧ t.initd = true ∧ t.ackEn = false) ∧
  (∀ s t : State, step s = .next t → s.initd = true → s.ackEn = false →
    (t.ackEn = true → s.PollsIn .r7 ∧ waitCond .r7 s.sample = true) ∧ (t.initd = false → s.hostNow.rst = true))

/-- R25: `INITD` is set by INIT and cleared by reset only. -/
def Obligations.InitdMeansInitSinceReset : Prop :=
  ∀ s t : State, step s = .next t →
    (t.initd = true ↔ s.hostNow.rst = false ∧
      (s.initd = true ∨ ∃ w, s.Accepts w ∧ decode w = .ok .init))

/-- R14, R15, R16, R17, R73: who writes the latches, and what. -/
def Obligations.LatchesWrittenOnlyByTheirRules : Prop :=
  ∀ s t : State, step s = .next t → s.hostNow.rst = false →
    (∀ w a r, s.Accepts w → decode w = .ok (.rdb a r) → s.initd = true →
      t.dev = w.addr7 ∧ t.reg = w.reg8 ∧ t.dat = s.dat) ∧
    (∀ w a r v, s.Accepts w → decode w = .ok (.wrb a r v) → s.initd = true →
      t.dev = w.addr7 ∧ t.reg = w.reg8 ∧ t.dat = w.val8) ∧
    (t.dev ≠ s.dev ∨ t.reg ≠ s.reg → s.pc = .idle ∧ (t.pc = .r0 ∨ t.pc = .w0)) ∧
    (t.dat ≠ s.dat → s.pc = .idle ∧ t.pc = .w0) ∧
    (t.res ≠ s.res → s.pc = .r6 ∧ t.pc = .r7 ∧ t.res = s.sample.rxData)

/-- R18: what latches (and `CNT`) hold between transactions cannot be observed. -/
def Obligations.DeadLatchesAreUnobservable : Prop :=
  ∀ s s' t : State, s.SameButDeadLatches s' → step s = .next t →
    ∃ t', step s' = .next t' ∧ t.SameButDeadLatches t'

/-- R86 (b), R41, R82: a poll looks at the awaited flag and at nothing else of the sample (and at `rx_data` in `R6`). -/
def Obligations.FlagMonitorLooksAtOneFlag : Prop :=
  ∀ (s : State) (f g : FlagSample) (rest : List FlagSample), s.hostNow.rst = false → s.pc ≠ .idle →
    waitCond s.pc f = waitCond s.pc g →
    (s.pc = .r6 → f.rxData = g.rxData) →
    step (s.setEnv (.oracle (f :: rest))) = step (s.setEnv (.oracle (g :: rest)))

/-! ## Outputs -/

/-- R66: a response is produced in the step a command ends, and in no other step. -/
def Obligations.ResponseExactlyWhenCommandEnds : Prop :=
  ∀ s t : State, step s = .next t →
    (t.out.rsp.isSome = true ↔
      s.hostNow.rst = false ∧ t.pc = .idle ∧ (s.pc ≠ .idle ∨ s.hostNow.cmd.isSome = true))

/-- R67, R72: what a response can hold. -/
def Obligations.ResponseCodes : Prop :=
  ∀ (s t : State) (r : Response), step s = .next t → t.out.rsp = some r →
    r.data.toNat < 256 ∧
    (r.status = .timeout → r.data = 0#32 ∧ r.phase = s.pc.ph ∧ s.pc ≠ .idle) ∧
    (r.status = .refused → r.data = 0#32 ∧ r.phase = 0#3 ∧ s.pc = .idle) ∧
    (r.status = .ok → r.phase = 0#3 ∧ r.data = if s.pc = .r7 then s.res.setWidth 32 else 0#32) ∧
    r.status.code ≠ 0b11#2

/-- R69: one diagnostic in the step of a timeout, none in any other, naming direction and phase. -/
def Obligations.DiagnosticExactlyAtTimeout : Prop :=
  ∀ s t : State, step s = .next t →
    (t.out.diag.isSome = true ↔
      s.hostNow.rst = false ∧ s.pc ≠ .idle ∧ waitCond s.pc s.sample = false ∧ s.cnt = 1#32) ∧
    (∀ d, t.out.diag = some d → d.dir = s.pc.dir ∧ d.phase = s.pc.ph) ∧
    (t.out.diag.isSome = true ↔ ∃ r, t.out.rsp = some r ∧ r.status = .timeout)

/-- R42: the action list of a step is in ascending bit order, has at most one send, and has more than one action only in
the exits of `R5` and `R7`; a step that neither leaves a wait nor runs INIT emits nothing. -/
def Obligations.ActionListsAreOrdered : Prop :=
  ∀ s t : State, step s = .next t →
    t.out.actions.Pairwise (fun x y => x.bit < y.bit) ∧
    (t.out.actions.filterMap Action.txByte).length ≤ 1 ∧
    (2 ≤ t.out.actions.length → (s.pc = .r5 ∨ s.pc = .r7) ∧ waitCond s.pc s.sample = true) ∧
    (s.hostNow.rst = true ∨ (s.pc ≠ .idle ∧ waitCond s.pc s.sample = false) → t.out.actions = []) ∧
    (s.pc = .idle → t.out.actions = [] ∨ t.out.actions = [.configure])

/-- R70, R55: the address byte is the device address times two plus the direction, and gives both back. The layout is the
two-wire protocol's, which the spec takes from general knowledge (log entry 11). -/
def Obligations.AddressByteLayout : Prop :=
  ∀ (a : DevAddr) (d : Dir), (addressByte a d).toNat = a.toNat * 2 + (if d = .read then 1 else 0) ∧
    addressByteDev (addressByte a d) = a ∧ addressByteDir (addressByte a d) = d

/-- R40: `flags[8:0]` and `rx_data[7:0]` carry a sample whole, each flag at its bit. -/
def Obligations.FlagsPortCarriesTheSample : Prop :=
  (∀ (v : BitVec 9) (b : Byte), (FlagSample.ofPorts v b).flagsPort = v ∧ (FlagSample.ofPorts v b).rxData = b) ∧
  ∀ f : FlagSample, FlagSample.ofPorts f.flagsPort f.rxData = f ∧ f.flagsPort.getLsbD 0 = f.busy ∧
    f.flagsPort.getLsbD 1 = f.evMs ∧ f.flagsPort.getLsbD 2 = f.evTxsel ∧ f.flagsPort.getLsbD 3 = f.evTxing ∧
    f.flagsPort.getLsbD 4 = f.btf ∧ f.flagsPort.getLsbD 5 = f.addr ∧ f.flagsPort.getLsbD 6 = f.rxne ∧
    f.flagsPort.getLsbD 7 = f.stopf ∧ f.flagsPort.getLsbD 8 = f.af

/-- R42: the strobes of a step, read in ascending bit order, are its action list, and `tx_byte` is the byte of the send
among them. -/
def Obligations.StrobesCarryTheActions : Prop :=
  ∀ s t : State, step s = .next t →
    (List.range 10).filter (fun b => t.out.actPort.getLsbD b) = t.out.actions.map Action.bit ∧
    ∀ b, (.sendAddr b ∈ t.out.actions ∨ .sendData b ∈ t.out.actions) ↔ t.out.txByte = some b

/-! ## Invariants -/

/-- R32 at reset. -/
def Obligations.ResetIsReachable : Prop := State.reset.Reachable

/-- R32 (b), (c), (f): what holds of every reachable state is kept by every step, whatever the host and the environment
do. -/
def Obligations.StepKeepsReachable : Prop :=
  ∀ s t : State, s.Reachable → step s = .next t → t.Reachable

/-- R52 and the model's representation (log entry 8): the environment's memory is in canonical form at reset, and ENV-ECHO
starts so for every choice of its parameters, with all nine flags 0. -/
def Obligations.ResetEnvironmentIsCanonical : Prop :=
  State.reset.env.wf ∧ Memory.wf [] ∧
  ∀ (present : List DevAddr) (mem0 : List ((DevAddr × Byte) × Byte)) (ptr0 : List (DevAddr × Byte))
    (sel : Option (DevAddr × Dir)) (nbytes : Nat) (rx : Byte),
    (State.resetIn (.echo (EchoEnv.initial present mem0 ptr0 sel nbytes rx))).env.wf ∧
    (EchoEnv.initial present mem0 ptr0 sel nbytes rx).flags.flagsPort = 0#9 ∧
    (EchoEnv.initial present mem0 ptr0 sel nbytes rx).flags.rxData = rx ∧
    (EchoEnv.initial present mem0 ptr0 sel nbytes rx).present = present

/-- Every step keeps the canonical form of ENV-ECHO's memory (log entry 8). -/
def Obligations.StepKeepsMemoryCanonical : Prop :=
  ∀ s t : State, s.env.wf → step s = .next t → t.env.wf

/-! ## Device registers, against ENV-ECHO (R52 to R57: the spec's own test environment) -/

/-- R56, R47: in any step a device register changes only where `SEND_DATA` stores, at the selected device's pointer; a
WRB's value byte is stored there. -/
def Obligations.DeviceRegistersChangeOnlyByStores : Prop :=
  ∀ (s t : State) (e : EchoEnv), s.env = .echo e → step s = .next t →
    (∀ d r, ¬(s.hostNow.rst = false ∧ (s.pc = .r2 ∨ s.pc = .w2 ∨ s.pc = .w3) ∧ waitCond s.pc s.sample = true ∧
        e.storeTarget = some (d, r)) → t.env.readCell d r = s.env.readCell d r) ∧
    (∀ d r, e.wf → s.PollsIn .w3 → waitCond .w3 s.sample = true → e.storeTarget = some (d, r) →
      t.env.readCell d r = some s.dat)

/-- R115, R153: against ENV-ECHO with a present device a WRB takes 6 steps, answers OK, stores its byte and nothing else,
and leaves the bus free. -/
def Obligations.EchoWriteStoresItsByte : Prop :=
  ∀ (s : State) (e : EchoEnv) (a : DevAddr) (r v : Byte), s.env = .echo e → e.wf → e.BusFree → a ∈ e.present →
    s.Accepts (encode (.wrb a r v)) → s.initd = true → s.noReset 6 →
    ∃ (t : State) (e' : EchoEnv), Host.Core.run core 6 s = .next t ∧ t.pc = .idle ∧ t.initd = true ∧ t.ackEn = s.ackEn ∧
      t.out.rsp = some { data := 0#32, status := .ok, phase := 0#3 } ∧ t.host = s.host.drop 6 ∧
      t.env = .echo e' ∧ e'.wf ∧ e'.BusFree ∧ e'.present = e.present ∧ e'.mem = (e.writeCell a r v).mem

/-- R106, R153: against ENV-ECHO with a present device an RDB takes 9 steps, answers with the register's byte, and
changes no register. -/
def Obligations.EchoReadReturnsTheRegister : Prop :=
  ∀ (s : State) (e : EchoEnv) (a : DevAddr) (r : Byte), s.env = .echo e → e.wf → e.BusFree → a ∈ e.present →
    s.Accepts (encode (.rdb a r)) → s.initd = true → s.noReset 9 →
    ∃ (t : State) (e' : EchoEnv), Host.Core.run core 9 s = .next t ∧ t.pc = .idle ∧ t.initd = true ∧ t.ackEn = true ∧
      t.out.rsp = some { data := (e.readCell a r).setWidth 32, status := .ok, phase := 0#3 } ∧
      t.host = s.host.drop 9 ∧ t.env = .echo e' ∧ e'.wf ∧ e'.BusFree ∧ e'.present = e.present ∧ e'.mem = e.mem

/-- R59: the round-trip law, for a read that follows the write at once or after any number `m` of idle steps. -/
def Obligations.RoundTripLaw : Prop :=
  ∀ (s : State) (e : EchoEnv) (a : DevAddr) (r v : Byte) (m : Nat), s.env = .echo e → e.wf → e.BusFree → a ∈ e.present →
    s.Accepts (encode (.wrb a r v)) → s.initd = true → s.noReset (15 + m) →
    (∀ i, i < m → ∀ h : HostInput, s.host[6 + i]? = some h → h.cmd = none) →
    s.host[6 + m]? = some { rst := false, cmd := some (encode (.rdb a r)) } →
    ∃ t u : State, Host.Core.run core 6 s = .next t ∧
      t.out.rsp = some { data := 0#32, status := .ok, phase := 0#3 } ∧ t.env.readCell a r = some v ∧
      Host.Core.run core (9 + m) t = .next u ∧
      u.out.rsp = some { data := v.setWidth 32, status := .ok, phase := 0#3 } ∧ u.env.readCell a r = some v

/-- R55, R150, R153: against ENV-ECHO a command to an absent device times out in phase 2, after the whole budget. -/
def Obligations.EchoAbsentDeviceTimesOut : Prop :=
  ∀ (s : State) (e : EchoEnv) (a : DevAddr) (r : Byte), s.env = .echo e → e.BusFree → a ∉ e.present →
    s.initd = true → s.noReset (3 + Config.nTimeout.toNat) →
    (s.Accepts (encode (.rdb a r)) →
      ∃ t : State, Host.Core.run core (3 + Config.nTimeout.toNat) s = .next t ∧ t.pc = .idle ∧
        t.out = { actions := [], rsp := some { data := 0#32, status := .timeout, phase := 2#3 }
                  diag := some { dir := .read, phase := 2#3 } }) ∧
    (∀ v, s.Accepts (encode (.wrb a r v)) →
      ∃ t : State, Host.Core.run core (3 + Config.nTimeout.toNat) s = .next t ∧ t.pc = .idle ∧
        t.out = { actions := [], rsp := some { data := 0#32, status := .timeout, phase := 2#3 }
                  diag := some { dir := .write, phase := 2#3 } })

/-- R58: what ENV-SCRIPT shows, and how it counts polls and transactions. -/
def Obligations.ScriptAnswersFromItsPollOn : Prop :=
  ∀ (s t : State) (e : ScriptEnv) (row : ScriptRow), s.env = .script e → e.rows[e.txn - 1]? = some row →
    step s = .next t → s.hostNow.rst = false →
    (s.pc ≠ .idle → s.sample.rxData = row.byte ∧
      (waitCond s.pc s.sample = true ↔ ∃ j, row.firstTrue[s.pc.ph.toNat]? = some (some j) ∧ j ≤ e.polls + 1)) ∧
    (s.pc ≠ .idle → t.pc = s.pc → t.env = .script { e with polls := e.polls + 1 }) ∧
    (s.pc ≠ .idle → t.pc ≠ s.pc → t.pc ≠ .idle → t.env = .script { e with polls := 0 }) ∧
    (s.pc = .idle → t.pc ≠ .idle → t.env = .script { e with txn := e.txn + 1, polls := 0 }) ∧
    (s.pc = .idle → t.pc = .idle → t.env = .script e)

/-! ## Whole transactions, against every environment -/

/-- R105, R106, R107: the action trace of a read, from its acceptance to any later step of it: as far as its wait while
it goes on, the eleven actions where it ends well, and the actions before the timed-out phase where it does not. -/
def Obligations.ReadTrace : Prop :=
  ∀ (s t : State) (k : Nat) (acts : List Action), s.pc = .r0 → s.noReset k → s.busyFor k →
    runTrace k s = some (acts, t) →
    (t.pc ≠ .idle → acts = readTraceBefore s.dev s.reg t.pc) ∧
    (t.pc = .idle → ∃ r, t.out.rsp = some r ∧
      ((r.status = .ok ∧ r.phase = 0#3 ∧ r.data = t.res.setWidth 32 ∧ t.ackEn = true ∧ t.out.diag = none ∧
          acts = readTraceWhole s.dev s.reg) ∨
        (r.status = .timeout ∧ r.data = 0#32 ∧ t.out.diag = some { dir := .read, phase := r.phase } ∧
          acts = readTraceBefore s.dev s.reg (readWait r.phase) ∧
          t.ackEn = if r.phase = 6#3 ∨ r.phase = 7#3 then false else s.ackEn)))

/-- R114, R115: the action trace of a write; a write emits no second START, a timed-out one no STOP, and no write touches
acknowledge generation. -/
def Obligations.WriteTrace : Prop :=
  ∀ (s t : State) (k : Nat) (acts : List Action), s.pc = .w0 → s.noReset k → s.busyFor k →
    runTrace k s = some (acts, t) →
    t.ackEn = s.ackEn ∧ acts.count .start ≤ 1 ∧
    (t.pc ≠ .idle → acts = writeTraceBefore s.dev s.reg s.dat t.pc) ∧
    (t.pc = .idle → ∃ r, t.out.rsp = some r ∧ r.data = 0#32 ∧
      ((r.status = .ok ∧ r.phase = 0#3 ∧ t.out.diag = none ∧ acts = writeTraceWhole s.dev s.reg s.dat) ∨
        (r.status = .timeout ∧ r.phase.toNat < 5 ∧ t.out.diag = some { dir := .write, phase := r.phase } ∧
          acts = writeTraceBefore s.dev s.reg s.dat (writeWait r.phase) ∧ .stop ∉ acts)))
end

