-- ==== Sys2Proof/Laws/Config.lean ====
section
/-! SUPPORT. The bounds of `N_TIMEOUT` (00_scope.md R7). -/

namespace Sys2Proof

theorem Config.nTimeout_toNat : Config.nTimeout.toNat = Config.spareBudget.val + 1 := by
  have h := Config.spareBudget.isLt
  rw [Config.nTimeout, BitVec.toNat_ofNat]
  omega

/-- R7: the budget is at least one poll. -/
theorem Config.nTimeout_pos : 1 ≤ Config.nTimeout.toNat := by
  rw [Config.nTimeout_toNat]
  omega

theorem Config.nTimeout_ne_zero : Config.nTimeout ≠ 0#32 := by
  intro h
  have := Config.nTimeout_pos
  simp [h] at this

end Sys2Proof
end

