-- ==== Sys2Proof/Laws/Encoding.lean ====
section
/-! SUPPORT. The command word's fields (30_encoding.md R62): packing and taking apart are inverse, and the packed word's
value as a number. -/

namespace Sys2Proof

section
variable (rsv1 : BitVec 6) (opc : BitVec 2) (rsv0 : BitVec 1) (addr : DevAddr) (reg val : Byte)

theorem packCommand_rsv1 : Word.rsv1 (packCommand rsv1 opc rsv0 addr reg val) = rsv1 := by
  ext k hk
  simp only [Word.rsv1, packCommand, BitVec.getElem_extractLsb', BitVec.getLsbD_append]
  interval_cases k <;> simp [BitVec.getLsbD_eq_getElem]

theorem packCommand_opc : Word.opc (packCommand rsv1 opc rsv0 addr reg val) = opc := by
  ext k hk
  simp only [Word.opc, packCommand, BitVec.getElem_extractLsb', BitVec.getLsbD_append]
  interval_cases k <;> simp [BitVec.getLsbD_eq_getElem]

theorem packCommand_rsv0 : Word.rsv0 (packCommand rsv1 opc rsv0 addr reg val) = rsv0 := by
  ext k hk
  simp only [Word.rsv0, packCommand, BitVec.getElem_extractLsb', BitVec.getLsbD_append]
  interval_cases k; simp [BitVec.getLsbD_eq_getElem]

theorem packCommand_addr7 : Word.addr7 (packCommand rsv1 opc rsv0 addr reg val) = addr := by
  ext k hk
  simp only [Word.addr7, packCommand, BitVec.getElem_extractLsb', BitVec.getLsbD_append]
  interval_cases k <;> simp [BitVec.getLsbD_eq_getElem]

theorem packCommand_reg8 : Word.reg8 (packCommand rsv1 opc rsv0 addr reg val) = reg := by
  ext k hk
  simp only [Word.reg8, packCommand, BitVec.getElem_extractLsb', BitVec.getLsbD_append]
  interval_cases k <;> simp [BitVec.getLsbD_eq_getElem]

theorem packCommand_val8 : Word.val8 (packCommand rsv1 opc rsv0 addr reg val) = val := by
  ext k hk
  simp only [Word.val8, packCommand, BitVec.getElem_extractLsb', BitVec.getLsbD_append]
  interval_cases k <;> simp [BitVec.getLsbD_eq_getElem]

/-- R64, R65: the packed word as a sum of shifted fields. -/
theorem packCommand_toNat : (packCommand rsv1 opc rsv0 addr reg val).toNat =
    rsv1.toNat * 2 ^ 26 + opc.toNat * 2 ^ 24 + rsv0.toNat * 2 ^ 23 + addr.toNat * 2 ^ 16 + reg.toNat * 2 ^ 8 +
      val.toNat := by
  have h1 := opc.isLt
  have h2 := rsv0.isLt
  have h3 := addr.isLt
  have h4 := reg.isLt
  have h5 := val.isLt
  simp only [packCommand, BitVec.toNat_append]
  rw [← Nat.shiftLeft_add_eq_or_of_lt h1, ← Nat.shiftLeft_add_eq_or_of_lt h2, ← Nat.shiftLeft_add_eq_or_of_lt h3,
    ← Nat.shiftLeft_add_eq_or_of_lt h4, ← Nat.shiftLeft_add_eq_or_of_lt h5]
  simp only [Nat.shiftLeft_eq]
  omega

end

/-- A word is its six fields side by side. -/
theorem Word.eq_packCommand (w : Word) : w = packCommand w.rsv1 w.opc w.rsv0 w.addr7 w.reg8 w.val8 := by
  apply BitVec.eq_of_getLsbD_eq
  intro k hk
  simp only [packCommand, BitVec.getLsbD_append, BitVec.getLsbD_extractLsb', Word.rsv1, Word.opc, Word.rsv0, Word.addr7,
    Word.reg8, Word.val8]
  interval_cases k <;> simp

end Sys2Proof
end

