-- ==== Sys2Proof/Laws/Memory.lean ====
section
/-! SUPPORT. The device registers of ENV-ECHO as a canonical list: every operation keeps the form, a read after a write
gives the byte written, and a write leaves every other address alone. -/

namespace Sys2Proof.Machine

theorem Memory.wf_nil : Memory.wf [] := by simp [Memory.wf]

theorem State.reset_env_wf : State.reset.env.wf := trivial

/-- The addresses listed after a write are old ones or the written one. -/
theorem Memory.mem_write_fst {m : Memory} {a : Nat} {v : Byte} {c : Host.Cell} (h : c ∈ Memory.write m a v) :
    c = (a, v) ∨ c ∈ m := by
  induction m with
  | nil => simp only [Memory.write] at h; split at h <;> simp_all
  | cons x m ih =>
    obtain ⟨b, w⟩ := x
    simp only [Memory.write] at h
    split at h
    · split at h <;> simp_all
    · split at h
      · rename_i hab
        subst hab
        split at h
        · exact .inr (List.mem_cons_of_mem _ h)
        · rcases List.mem_cons.1 h with h | h
          · exact .inl h
          · exact .inr (List.mem_cons_of_mem _ h)
      · rcases List.mem_cons.1 h with h | h
        · simp [h]
        · rcases ih h with h | h <;> simp [h]

/-- No entry written is a 0. -/
theorem Memory.write_ne_zero {m : Memory} (hm : ∀ c ∈ m, c.2 ≠ 0#8) (a : Nat) (v : Byte) :
    ∀ c ∈ Memory.write m a v, c.2 ≠ 0#8 := by
  induction m with
  | nil => simp only [Memory.write]; split <;> simp_all
  | cons x m ih =>
    obtain ⟨b, w⟩ := x
    have hm' : ∀ c ∈ m, c.2 ≠ 0#8 := fun c hc => hm c (List.mem_cons_of_mem _ hc)
    simp only [Memory.write]
    split
    · split
      · exact hm
      · rintro c (_ | ⟨_, hc⟩)
        · assumption
        · exact hm c hc
    · split
      · split
        · exact hm'
        · rintro c (_ | ⟨_, hc⟩)
          · assumption
          · exact hm' c hc
      · rintro c (_ | ⟨_, hc⟩)
        · exact hm _ (List.mem_cons_self ..)
        · exact ih hm' c hc

/-- A write keeps the addresses strictly rising. -/
theorem Memory.write_sorted {m : Memory} (hm : m.Pairwise (fun x y => x.1 < y.1)) (a : Nat) (v : Byte) :
    (Memory.write m a v).Pairwise (fun x y => x.1 < y.1) := by
  induction m with
  | nil => simp only [Memory.write]; split <;> simp
  | cons x m ih =>
    obtain ⟨b, w⟩ := x
    have hbm := List.pairwise_cons.1 hm
    simp only [Memory.write]
    split
    · rename_i hab
      split
      · exact hm
      · refine List.pairwise_cons.2 ⟨?_, hm⟩
        intro c hc
        rcases List.mem_cons.1 hc with rfl | hc
        · exact hab
        · exact Nat.lt_trans hab (hbm.1 c hc)
    · split
      · rename_i hab
        subst hab
        split
        · exact hbm.2
        · exact List.pairwise_cons.2 ⟨hbm.1, hbm.2⟩
      · rename_i h1 h2
        refine List.pairwise_cons.2 ⟨?_, ih hbm.2⟩
        intro c hc
        rcases Memory.mem_write_fst hc with rfl | hc
        · exact Nat.lt_of_le_of_ne (Nat.le_of_not_lt h1) (Ne.symm h2)
        · exact hbm.1 c hc

/-- A write keeps the canonical form. -/
theorem Memory.wf_write {m : Memory} (hm : Memory.wf m) (a : Nat) (v : Byte) : Memory.wf (Memory.write m a v) :=
  ⟨Memory.write_sorted hm.1 a v, Memory.write_ne_zero hm.2 a v⟩

/-- An address below every listed one reads 0. -/
theorem Memory.read_below {m : Memory} {a : Nat} (h : ∀ c ∈ m, a < c.1) : Memory.read m a = 0#8 := by
  induction m with
  | nil => rfl
  | cons x m ih =>
    obtain ⟨b, w⟩ := x
    have hab : a < b := h (b, w) (List.mem_cons_self ..)
    rw [Memory.read, if_neg (by omega)]
    exact ih fun c hc => h c (List.mem_cons_of_mem _ hc)

theorem Memory.read_write_same {m : Memory} (hm : Memory.wf m) (a : Nat) (v : Byte) :
    Memory.read (Memory.write m a v) a = v := by
  obtain ⟨hm, -⟩ := hm
  induction m with
  | nil => simp only [Memory.write]; split <;> simp_all [Memory.read]
  | cons x m ih =>
    obtain ⟨b, w⟩ := x
    have hbm := List.pairwise_cons.1 hm
    simp only [Memory.write]
    split
    · rename_i hab
      split
      · rename_i hv
        rw [hv, Memory.read_below]
        intro c hc
        rcases List.mem_cons.1 hc with rfl | hc
        · exact hab
        · exact Nat.lt_trans hab (hbm.1 c hc)
      · simp [Memory.read]
    · split
      · rename_i hab
        subst hab
        split
        · rename_i hv
          rw [hv, Memory.read_below hbm.1]
        · simp [Memory.read]
      · rename_i h1 h2
        rw [Memory.read, if_neg (Ne.symm h2)]
        exact ih hbm.2

theorem Memory.read_write_other (m : Memory) {a c : Nat} (h : c ≠ a) (v : Byte) :
    Memory.read (Memory.write m a v) c = Memory.read m c := by
  induction m with
  | nil => simp only [Memory.write]; split <;> simp [Memory.read, Ne.symm h]
  | cons x m ih =>
    obtain ⟨b, w⟩ := x
    simp only [Memory.write]
    split
    · split <;> simp [Memory.read, Ne.symm h]
    · split
      · rename_i hab
        subst hab
        split <;> simp [Memory.read, Ne.symm h]
      · simp only [Memory.read]
        split
        · rfl
        · exact ih

/-- Two different device registers have different keys. -/
theorem cellKey_injective {d d' : DevAddr} {r r' : Byte} (h : cellKey d r = cellKey d' r') : d = d' ∧ r = r' := by
  have h1 := r.isLt
  have h2 := r'.isLt
  simp only [cellKey] at h
  constructor
  · apply BitVec.eq_of_toNat_eq; omega
  · apply BitVec.eq_of_toNat_eq; omega

/-- A memory built from a list is canonical. -/
theorem Memory.wf_ofList (l : List Host.Cell) : Memory.wf (Memory.ofList l) := by
  induction l with
  | nil => exact Memory.wf_nil
  | cons c l ih => exact Memory.wf_write ih c.1 c.2

/-- ENV-ECHO starts with its lists canonical. -/
theorem EchoEnv.wf_initial (present : List DevAddr) (mem0 : List ((DevAddr × Byte) × Byte)) (ptr0 : List (DevAddr × Byte))
    (sel : Option (DevAddr × Dir)) (nbytes : Nat) (rxData : Byte) :
    (EchoEnv.initial present mem0 ptr0 sel nbytes rxData).wf :=
  ⟨Memory.wf_ofList _, Memory.wf_ofList _⟩

/-- A register that the initial list names as `f` says reads as `f` says. -/
theorem Memory.read_ofList_map (f : DevAddr → Byte → Byte) {l : List (DevAddr × Byte)} {d : DevAddr} {r : Byte}
    (h : (d, r) ∈ l) :
    Memory.read (Memory.ofList (l.map fun x => (cellKey x.1 x.2, f x.1 x.2))) (cellKey d r) = f d r := by
  induction l with
  | nil => simp at h
  | cons x l ih =>
    by_cases hx : cellKey d r = cellKey x.1 x.2
    · obtain ⟨h1, h2⟩ := cellKey_injective hx
      rw [List.map_cons, Memory.ofList, ← hx, ← h1, ← h2]
      exact Memory.read_write_same (Memory.wf_ofList _) _ _
    · rw [List.map_cons, Memory.ofList, Memory.read_write_other _ hx]
      rcases List.mem_cons.1 h with rfl | h
      · exact absurd rfl hx
      · exact ih h

/-- R52: every function of device and register is the `mem0` of some start. -/
theorem EchoEnv.initial_covers (f : DevAddr → Byte → Byte) (present : List DevAddr) (ptr0 : List (DevAddr × Byte))
    (sel : Option (DevAddr × Dir)) (nbytes : Nat) (rxData : Byte) :
    ∃ mem0, ∀ d r, (EchoEnv.initial present mem0 ptr0 sel nbytes rxData).readCell d r = f d r := by
  let all : List (DevAddr × Byte) :=
    (List.range 128).flatMap fun i => (List.range 256).map fun j => (BitVec.ofNat 7 i, BitVec.ofNat 8 j)
  refine ⟨all.map fun x => (x, f x.1 x.2), fun d r => ?_⟩
  have hmem : (d, r) ∈ all := by
    simp only [all, List.mem_flatMap, List.mem_map, List.mem_range]
    exact ⟨d.toNat, d.isLt, r.toNat, r.isLt, by simp⟩
  have hkey : (all.map fun x => (x, f x.1 x.2)).map (fun c => (cellKey c.1.1 c.1.2, c.2)) =
      all.map fun x => (cellKey x.1 x.2, f x.1 x.2) := List.map_map
  simp only [EchoEnv.readCell, EchoEnv.initial]
  rw [hkey]
  exact Memory.read_ofList_map f hmem

/-- An action keeps ENV-ECHO's lists canonical. -/
theorem EchoEnv.wf_onAction {e : EchoEnv} (h : e.wf) (a : Action) : (e.onAction a).wf := by
  obtain ⟨hm, hp⟩ := h
  cases a with
  | sendAddr b =>
    simp only [EchoEnv.onAction, EchoEnv.onSendAddr]
    split
    · split <;> exact ⟨hm, hp⟩
    · exact ⟨hm, hp⟩
  | sendData b =>
    simp only [EchoEnv.onAction, EchoEnv.onSendData]
    split
    · split
      · exact ⟨Memory.wf_write hm _ _, hp⟩
      · exact ⟨hm, Memory.wf_write hp _ _⟩
    · exact ⟨hm, hp⟩
    · exact ⟨hm, hp⟩
  | clearAddr =>
    simp only [EchoEnv.onAction, EchoEnv.onClearAddr]
    split <;> exact ⟨hm, hp⟩
  | configure | ackDisable | ackEnable | start | stop | readData | clearAf => exact ⟨hm, hp⟩

/-- An action keeps the environment canonical. -/
theorem Env.wf_onAction {e : Env} (h : e.wf) (a : Action) : (e.onAction a).wf := by
  cases e with
  | oracle fs => trivial
  | echo e => exact EchoEnv.wf_onAction h a
  | script e => trivial

theorem Env.wf_onSample {e : Env} (h : e.wf) : e.onSample.wf := by cases e <;> exact h
theorem Env.wf_onEnterWait {e : Env} (h : e.wf) : e.onEnterWait.wf := by cases e <;> exact h
theorem Env.wf_onTransaction {e : Env} (h : e.wf) : e.onTransaction.wf := by cases e <;> exact h
theorem Env.wf_onReset {e : Env} (h : e.wf) : e.onReset.wf := by cases e <;> exact h

end Sys2Proof.Machine
end

