-- ==== Sys2Proof/Laws/Environment.lean ====
section
/-! SUPPORT. What the environment does at each event, kind by kind (20_memory.md R51 to R58), the address byte's two
fields (30_encoding.md R70), and which actions leave ENV-ECHO's device registers alone. -/

namespace Sys2Proof.Machine

/-- R70: the address byte carries the device address. -/
@[simp] theorem addressByteDev_addressByte (a : DevAddr) (d : Dir) : addressByteDev (addressByte a d) = a := by
  revert a
  cases d <;> decide

/-- R70: the address byte carries the direction. -/
@[simp] theorem addressByteDir_addressByte (a : DevAddr) (d : Dir) : addressByteDir (addressByte a d) = d := by
  revert a
  cases d <;> decide

section
variable (fs : List FlagSample) (e : EchoEnv) (sc : ScriptEnv) (a : Action)
@[simp] theorem Env.onAction_oracle : (Env.oracle fs).onAction a = .oracle fs := rfl
@[simp] theorem Env.onAction_echo : (Env.echo e).onAction a = .echo (e.onAction a) := rfl
@[simp] theorem Env.onAction_script : (Env.script sc).onAction a = .script sc := rfl
@[simp] theorem Env.onSample_oracle : (Env.oracle fs).onSample = .oracle fs.tail := rfl
@[simp] theorem Env.onSample_echo : (Env.echo e).onSample = .echo e := rfl
@[simp] theorem Env.onSample_script : (Env.script sc).onSample = .script { sc with polls := sc.polls + 1 } := rfl
@[simp] theorem Env.onEnterWait_oracle : (Env.oracle fs).onEnterWait = .oracle fs := rfl
@[simp] theorem Env.onEnterWait_echo : (Env.echo e).onEnterWait = .echo e := rfl
@[simp] theorem Env.onEnterWait_script : (Env.script sc).onEnterWait = .script { sc with polls := 0 } := rfl
@[simp] theorem Env.onTransaction_oracle : (Env.oracle fs).onTransaction = .oracle fs := rfl
@[simp] theorem Env.onTransaction_echo : (Env.echo e).onTransaction = .echo e := rfl
@[simp] theorem Env.onTransaction_script : (Env.script sc).onTransaction = .script { sc with txn := sc.txn + 1 } := rfl
@[simp] theorem Env.onReset_oracle : (Env.oracle fs).onReset = .oracle fs := rfl
@[simp] theorem Env.onReset_echo : (Env.echo e).onReset = .echo e := rfl
@[simp] theorem Env.onReset_script : (Env.script sc).onReset = .script { sc with txn := 0, polls := 0 } := rfl
@[simp] theorem Env.readCell_echo (d : DevAddr) (r : Byte) : (Env.echo e).readCell d r = some (e.readCell d r) := rfl
end

section
variable (e : Env) (d : DevAddr) (r : Byte)
@[simp] theorem Env.readCell_onSample : e.onSample.readCell d r = e.readCell d r := by cases e <;> rfl
@[simp] theorem Env.readCell_onEnterWait : e.onEnterWait.readCell d r = e.readCell d r := by cases e <;> rfl
@[simp] theorem Env.readCell_onTransaction : e.onTransaction.readCell d r = e.readCell d r := by cases e <;> rfl
@[simp] theorem Env.readCell_onReset : e.onReset.readCell d r = e.readCell d r := by cases e <;> rfl
@[simp] theorem Env.readCell_onConfigure : (e.onAction .configure).readCell d r = e.readCell d r := by cases e <;> rfl
end

/-- A device register other than the one `SEND_DATA` stores to keeps its byte under every action (R53 to R57). -/
theorem EchoEnv.readCell_onAction {e : EchoEnv} {d : DevAddr} {r : Byte} (a : Action)
    (h : ∀ b, a = .sendData b → e.storeTarget ≠ some (d, r)) : (e.onAction a).readCell d r = e.readCell d r := by
  cases a with
  | sendData b =>
    have hx := h b rfl
    simp only [EchoEnv.onAction, EchoEnv.onSendData]
    split
    · simp only [EchoEnv.readCell]
      split
      · rename_i hst
        apply Memory.read_write_other
        intro hk
        obtain ⟨rfl, rfl⟩ := cellKey_injective hk
        exact hx hst
      · rfl
    · rfl
    · rfl
  | sendAddr b =>
    simp only [EchoEnv.onAction, EchoEnv.onSendAddr]
    split
    · split <;> rfl
    · rfl
  | clearAddr =>
    simp only [EchoEnv.onAction, EchoEnv.onClearAddr]
    split <;> rfl
  | configure | ackDisable | ackEnable | start | stop | readData | clearAf => rfl

end Sys2Proof.Machine
end

