-- ==== Sys2Proof/Laws/State.lean ====
section
/-! SUPPORT. One lemma per field per register write, so that no proof unfolds a record update. -/

namespace Sys2Proof.Machine

section
variable (s : State) (v : Pc)
@[simp] theorem State.setPc_pc : (s.setPc v).pc = v := rfl
@[simp] theorem State.setPc_cnt : (s.setPc v).cnt = s.cnt := rfl
@[simp] theorem State.setPc_dev : (s.setPc v).dev = s.dev := rfl
@[simp] theorem State.setPc_reg : (s.setPc v).reg = s.reg := rfl
@[simp] theorem State.setPc_dat : (s.setPc v).dat = s.dat := rfl
@[simp] theorem State.setPc_res : (s.setPc v).res = s.res := rfl
@[simp] theorem State.setPc_ackEn : (s.setPc v).ackEn = s.ackEn := rfl
@[simp] theorem State.setPc_initd : (s.setPc v).initd = s.initd := rfl
@[simp] theorem State.setPc_out : (s.setPc v).out = s.out := rfl
@[simp] theorem State.setPc_host : (s.setPc v).host = s.host := rfl
@[simp] theorem State.setPc_env : (s.setPc v).env = s.env := rfl
@[simp] theorem State.setPc_draws : (s.setPc v).draws = s.draws := rfl
end

section
variable (s : State) (v : Word)
@[simp] theorem State.setCnt_pc : (s.setCnt v).pc = s.pc := rfl
@[simp] theorem State.setCnt_cnt : (s.setCnt v).cnt = v := rfl
@[simp] theorem State.setCnt_dev : (s.setCnt v).dev = s.dev := rfl
@[simp] theorem State.setCnt_reg : (s.setCnt v).reg = s.reg := rfl
@[simp] theorem State.setCnt_dat : (s.setCnt v).dat = s.dat := rfl
@[simp] theorem State.setCnt_res : (s.setCnt v).res = s.res := rfl
@[simp] theorem State.setCnt_ackEn : (s.setCnt v).ackEn = s.ackEn := rfl
@[simp] theorem State.setCnt_initd : (s.setCnt v).initd = s.initd := rfl
@[simp] theorem State.setCnt_out : (s.setCnt v).out = s.out := rfl
@[simp] theorem State.setCnt_host : (s.setCnt v).host = s.host := rfl
@[simp] theorem State.setCnt_env : (s.setCnt v).env = s.env := rfl
@[simp] theorem State.setCnt_draws : (s.setCnt v).draws = s.draws := rfl
end

section
variable (s : State) (v : DevAddr)
@[simp] theorem State.setDev_pc : (s.setDev v).pc = s.pc := rfl
@[simp] theorem State.setDev_cnt : (s.setDev v).cnt = s.cnt := rfl
@[simp] theorem State.setDev_dev : (s.setDev v).dev = v := rfl
@[simp] theorem State.setDev_reg : (s.setDev v).reg = s.reg := rfl
@[simp] theorem State.setDev_dat : (s.setDev v).dat = s.dat := rfl
@[simp] theorem State.setDev_res : (s.setDev v).res = s.res := rfl
@[simp] theorem State.setDev_ackEn : (s.setDev v).ackEn = s.ackEn := rfl
@[simp] theorem State.setDev_initd : (s.setDev v).initd = s.initd := rfl
@[simp] theorem State.setDev_out : (s.setDev v).out = s.out := rfl
@[simp] theorem State.setDev_host : (s.setDev v).host = s.host := rfl
@[simp] theorem State.setDev_env : (s.setDev v).env = s.env := rfl
@[simp] theorem State.setDev_draws : (s.setDev v).draws = s.draws := rfl
end

section
variable (s : State) (v : Byte)
@[simp] theorem State.setReg_pc : (s.setReg v).pc = s.pc := rfl
@[simp] theorem State.setReg_cnt : (s.setReg v).cnt = s.cnt := rfl
@[simp] theorem State.setReg_dev : (s.setReg v).dev = s.dev := rfl
@[simp] theorem State.setReg_reg : (s.setReg v).reg = v := rfl
@[simp] theorem State.setReg_dat : (s.setReg v).dat = s.dat := rfl
@[simp] theorem State.setReg_res : (s.setReg v).res = s.res := rfl
@[simp] theorem State.setReg_ackEn : (s.setReg v).ackEn = s.ackEn := rfl
@[simp] theorem State.setReg_initd : (s.setReg v).initd = s.initd := rfl
@[simp] theorem State.setReg_out : (s.setReg v).out = s.out := rfl
@[simp] theorem State.setReg_host : (s.setReg v).host = s.host := rfl
@[simp] theorem State.setReg_env : (s.setReg v).env = s.env := rfl
@[simp] theorem State.setReg_draws : (s.setReg v).draws = s.draws := rfl
end

section
variable (s : State) (v : Byte)
@[simp] theorem State.setDat_pc : (s.setDat v).pc = s.pc := rfl
@[simp] theorem State.setDat_cnt : (s.setDat v).cnt = s.cnt := rfl
@[simp] theorem State.setDat_dev : (s.setDat v).dev = s.dev := rfl
@[simp] theorem State.setDat_reg : (s.setDat v).reg = s.reg := rfl
@[simp] theorem State.setDat_dat : (s.setDat v).dat = v := rfl
@[simp] theorem State.setDat_res : (s.setDat v).res = s.res := rfl
@[simp] theorem State.setDat_ackEn : (s.setDat v).ackEn = s.ackEn := rfl
@[simp] theorem State.setDat_initd : (s.setDat v).initd = s.initd := rfl
@[simp] theorem State.setDat_out : (s.setDat v).out = s.out := rfl
@[simp] theorem State.setDat_host : (s.setDat v).host = s.host := rfl
@[simp] theorem State.setDat_env : (s.setDat v).env = s.env := rfl
@[simp] theorem State.setDat_draws : (s.setDat v).draws = s.draws := rfl
end

section
variable (s : State) (v : Byte)
@[simp] theorem State.setRes_pc : (s.setRes v).pc = s.pc := rfl
@[simp] theorem State.setRes_cnt : (s.setRes v).cnt = s.cnt := rfl
@[simp] theorem State.setRes_dev : (s.setRes v).dev = s.dev := rfl
@[simp] theorem State.setRes_reg : (s.setRes v).reg = s.reg := rfl
@[simp] theorem State.setRes_dat : (s.setRes v).dat = s.dat := rfl
@[simp] theorem State.setRes_res : (s.setRes v).res = v := rfl
@[simp] theorem State.setRes_ackEn : (s.setRes v).ackEn = s.ackEn := rfl
@[simp] theorem State.setRes_initd : (s.setRes v).initd = s.initd := rfl
@[simp] theorem State.setRes_out : (s.setRes v).out = s.out := rfl
@[simp] theorem State.setRes_host : (s.setRes v).host = s.host := rfl
@[simp] theorem State.setRes_env : (s.setRes v).env = s.env := rfl
@[simp] theorem State.setRes_draws : (s.setRes v).draws = s.draws := rfl
end

section
variable (s : State) (v : Bool)
@[simp] theorem State.setAckEn_pc : (s.setAckEn v).pc = s.pc := rfl
@[simp] theorem State.setAckEn_cnt : (s.setAckEn v).cnt = s.cnt := rfl
@[simp] theorem State.setAckEn_dev : (s.setAckEn v).dev = s.dev := rfl
@[simp] theorem State.setAckEn_reg : (s.setAckEn v).reg = s.reg := rfl
@[simp] theorem State.setAckEn_dat : (s.setAckEn v).dat = s.dat := rfl
@[simp] theorem State.setAckEn_res : (s.setAckEn v).res = s.res := rfl
@[simp] theorem State.setAckEn_ackEn : (s.setAckEn v).ackEn = v := rfl
@[simp] theorem State.setAckEn_initd : (s.setAckEn v).initd = s.initd := rfl
@[simp] theorem State.setAckEn_out : (s.setAckEn v).out = s.out := rfl
@[simp] theorem State.setAckEn_host : (s.setAckEn v).host = s.host := rfl
@[simp] theorem State.setAckEn_env : (s.setAckEn v).env = s.env := rfl
@[simp] theorem State.setAckEn_draws : (s.setAckEn v).draws = s.draws := rfl
end

section
variable (s : State) (v : Bool)
@[simp] theorem State.setInitd_pc : (s.setInitd v).pc = s.pc := rfl
@[simp] theorem State.setInitd_cnt : (s.setInitd v).cnt = s.cnt := rfl
@[simp] theorem State.setInitd_dev : (s.setInitd v).dev = s.dev := rfl
@[simp] theorem State.setInitd_reg : (s.setInitd v).reg = s.reg := rfl
@[simp] theorem State.setInitd_dat : (s.setInitd v).dat = s.dat := rfl
@[simp] theorem State.setInitd_res : (s.setInitd v).res = s.res := rfl
@[simp] theorem State.setInitd_ackEn : (s.setInitd v).ackEn = s.ackEn := rfl
@[simp] theorem State.setInitd_initd : (s.setInitd v).initd = v := rfl
@[simp] theorem State.setInitd_out : (s.setInitd v).out = s.out := rfl
@[simp] theorem State.setInitd_host : (s.setInitd v).host = s.host := rfl
@[simp] theorem State.setInitd_env : (s.setInitd v).env = s.env := rfl
@[simp] theorem State.setInitd_draws : (s.setInitd v).draws = s.draws := rfl
end

section
variable (s : State) (v : Outputs)
@[simp] theorem State.setOut_pc : (s.setOut v).pc = s.pc := rfl
@[simp] theorem State.setOut_cnt : (s.setOut v).cnt = s.cnt := rfl
@[simp] theorem State.setOut_dev : (s.setOut v).dev = s.dev := rfl
@[simp] theorem State.setOut_reg : (s.setOut v).reg = s.reg := rfl
@[simp] theorem State.setOut_dat : (s.setOut v).dat = s.dat := rfl
@[simp] theorem State.setOut_res : (s.setOut v).res = s.res := rfl
@[simp] theorem State.setOut_ackEn : (s.setOut v).ackEn = s.ackEn := rfl
@[simp] theorem State.setOut_initd : (s.setOut v).initd = s.initd := rfl
@[simp] theorem State.setOut_out : (s.setOut v).out = v := rfl
@[simp] theorem State.setOut_host : (s.setOut v).host = s.host := rfl
@[simp] theorem State.setOut_env : (s.setOut v).env = s.env := rfl
@[simp] theorem State.setOut_draws : (s.setOut v).draws = s.draws := rfl
end

section
variable (s : State) (v : List HostInput)
@[simp] theorem State.setHost_pc : (s.setHost v).pc = s.pc := rfl
@[simp] theorem State.setHost_cnt : (s.setHost v).cnt = s.cnt := rfl
@[simp] theorem State.setHost_dev : (s.setHost v).dev = s.dev := rfl
@[simp] theorem State.setHost_reg : (s.setHost v).reg = s.reg := rfl
@[simp] theorem State.setHost_dat : (s.setHost v).dat = s.dat := rfl
@[simp] theorem State.setHost_res : (s.setHost v).res = s.res := rfl
@[simp] theorem State.setHost_ackEn : (s.setHost v).ackEn = s.ackEn := rfl
@[simp] theorem State.setHost_initd : (s.setHost v).initd = s.initd := rfl
@[simp] theorem State.setHost_out : (s.setHost v).out = s.out := rfl
@[simp] theorem State.setHost_host : (s.setHost v).host = v := rfl
@[simp] theorem State.setHost_env : (s.setHost v).env = s.env := rfl
@[simp] theorem State.setHost_draws : (s.setHost v).draws = s.draws := rfl
end

section
variable (s : State) (v : Env)
@[simp] theorem State.setEnv_pc : (s.setEnv v).pc = s.pc := rfl
@[simp] theorem State.setEnv_cnt : (s.setEnv v).cnt = s.cnt := rfl
@[simp] theorem State.setEnv_dev : (s.setEnv v).dev = s.dev := rfl
@[simp] theorem State.setEnv_reg : (s.setEnv v).reg = s.reg := rfl
@[simp] theorem State.setEnv_dat : (s.setEnv v).dat = s.dat := rfl
@[simp] theorem State.setEnv_res : (s.setEnv v).res = s.res := rfl
@[simp] theorem State.setEnv_ackEn : (s.setEnv v).ackEn = s.ackEn := rfl
@[simp] theorem State.setEnv_initd : (s.setEnv v).initd = s.initd := rfl
@[simp] theorem State.setEnv_out : (s.setEnv v).out = s.out := rfl
@[simp] theorem State.setEnv_host : (s.setEnv v).host = s.host := rfl
@[simp] theorem State.setEnv_env : (s.setEnv v).env = v := rfl
@[simp] theorem State.setEnv_draws : (s.setEnv v).draws = s.draws := rfl
end

section
variable (s : State) (v : Nat)
@[simp] theorem State.setDraws_pc : (s.setDraws v).pc = s.pc := rfl
@[simp] theorem State.setDraws_cnt : (s.setDraws v).cnt = s.cnt := rfl
@[simp] theorem State.setDraws_dev : (s.setDraws v).dev = s.dev := rfl
@[simp] theorem State.setDraws_reg : (s.setDraws v).reg = s.reg := rfl
@[simp] theorem State.setDraws_dat : (s.setDraws v).dat = s.dat := rfl
@[simp] theorem State.setDraws_res : (s.setDraws v).res = s.res := rfl
@[simp] theorem State.setDraws_ackEn : (s.setDraws v).ackEn = s.ackEn := rfl
@[simp] theorem State.setDraws_initd : (s.setDraws v).initd = s.initd := rfl
@[simp] theorem State.setDraws_out : (s.setDraws v).out = s.out := rfl
@[simp] theorem State.setDraws_host : (s.setDraws v).host = s.host := rfl
@[simp] theorem State.setDraws_env : (s.setDraws v).env = s.env := rfl
@[simp] theorem State.setDraws_draws : (s.setDraws v).draws = v := rfl
end

end Sys2Proof.Machine
end

