-- ==== Sys2Proof/Laws/Ops.lean ====
section
/-! SUPPORT. What each shared operation does to every field, said once: later proofs cite these and unfold no operation. -/

namespace Sys2Proof.Machine

section
/-! Starting a step takes the host's input off and clears the outputs (R30). -/
variable (s : State)
@[simp] theorem State.beginStep_pc : s.beginStep.pc = s.pc := rfl
@[simp] theorem State.beginStep_cnt : s.beginStep.cnt = s.cnt := rfl
@[simp] theorem State.beginStep_dev : s.beginStep.dev = s.dev := rfl
@[simp] theorem State.beginStep_reg : s.beginStep.reg = s.reg := rfl
@[simp] theorem State.beginStep_dat : s.beginStep.dat = s.dat := rfl
@[simp] theorem State.beginStep_res : s.beginStep.res = s.res := rfl
@[simp] theorem State.beginStep_ackEn : s.beginStep.ackEn = s.ackEn := rfl
@[simp] theorem State.beginStep_initd : s.beginStep.initd = s.initd := rfl
@[simp] theorem State.beginStep_out : s.beginStep.out = Outputs.none := rfl
@[simp] theorem State.beginStep_host : s.beginStep.host = s.host.tail := rfl
@[simp] theorem State.beginStep_env : s.beginStep.env = s.env := rfl
@[simp] theorem State.beginStep_draws : s.beginStep.draws = s.draws := rfl
end

section
/-! Taking a sample touches no register (R41). -/
variable (s : State)
@[simp] theorem State.sampled_pc : s.sampled.pc = s.pc := rfl
@[simp] theorem State.sampled_cnt : s.sampled.cnt = s.cnt := rfl
@[simp] theorem State.sampled_dev : s.sampled.dev = s.dev := rfl
@[simp] theorem State.sampled_reg : s.sampled.reg = s.reg := rfl
@[simp] theorem State.sampled_dat : s.sampled.dat = s.dat := rfl
@[simp] theorem State.sampled_res : s.sampled.res = s.res := rfl
@[simp] theorem State.sampled_ackEn : s.sampled.ackEn = s.ackEn := rfl
@[simp] theorem State.sampled_initd : s.sampled.initd = s.initd := rfl
@[simp] theorem State.sampled_out : s.sampled.out = s.out := rfl
@[simp] theorem State.sampled_host : s.sampled.host = s.host := rfl
@[simp] theorem State.sampled_env : s.sampled.env = s.env.onSample := rfl
@[simp] theorem State.sampled_draws : s.sampled.draws = s.draws + 1 := rfl
end

section
/-! An action goes out and the environment applies it; no register changes (R42). -/
variable (s : State) (a : Action)
@[simp] theorem State.emit_pc : (s.emit a).pc = s.pc := rfl
@[simp] theorem State.emit_cnt : (s.emit a).cnt = s.cnt := rfl
@[simp] theorem State.emit_dev : (s.emit a).dev = s.dev := rfl
@[simp] theorem State.emit_reg : (s.emit a).reg = s.reg := rfl
@[simp] theorem State.emit_dat : (s.emit a).dat = s.dat := rfl
@[simp] theorem State.emit_res : (s.emit a).res = s.res := rfl
@[simp] theorem State.emit_ackEn : (s.emit a).ackEn = s.ackEn := rfl
@[simp] theorem State.emit_initd : (s.emit a).initd = s.initd := rfl
@[simp] theorem State.emit_out : (s.emit a).out = { s.out with actions := s.out.actions ++ [a] } := rfl
@[simp] theorem State.emit_host : (s.emit a).host = s.host := rfl
@[simp] theorem State.emit_env : (s.emit a).env = s.env.onAction a := rfl
@[simp] theorem State.emit_draws : (s.emit a).draws = s.draws := rfl
end

section
/-! A response is an output only (R66). -/
variable (s : State) (data : Word) (st : Status) (ph : Phase)
@[simp] theorem State.respond_pc : (s.respond data st ph).pc = s.pc := rfl
@[simp] theorem State.respond_cnt : (s.respond data st ph).cnt = s.cnt := rfl
@[simp] theorem State.respond_dev : (s.respond data st ph).dev = s.dev := rfl
@[simp] theorem State.respond_reg : (s.respond data st ph).reg = s.reg := rfl
@[simp] theorem State.respond_dat : (s.respond data st ph).dat = s.dat := rfl
@[simp] theorem State.respond_res : (s.respond data st ph).res = s.res := rfl
@[simp] theorem State.respond_ackEn : (s.respond data st ph).ackEn = s.ackEn := rfl
@[simp] theorem State.respond_initd : (s.respond data st ph).initd = s.initd := rfl
@[simp] theorem State.respond_out : (s.respond data st ph).out = { s.out with rsp := some { data := data, status := st, phase := ph } } := rfl
@[simp] theorem State.respond_host : (s.respond data st ph).host = s.host := rfl
@[simp] theorem State.respond_env : (s.respond data st ph).env = s.env := rfl
@[simp] theorem State.respond_draws : (s.respond data st ph).draws = s.draws := rfl
end

section
/-! A diagnostic is an output only (R69). -/
variable (s : State) (d : Dir) (ph : Phase)
@[simp] theorem State.diagnose_pc : (s.diagnose d ph).pc = s.pc := rfl
@[simp] theorem State.diagnose_cnt : (s.diagnose d ph).cnt = s.cnt := rfl
@[simp] theorem State.diagnose_dev : (s.diagnose d ph).dev = s.dev := rfl
@[simp] theorem State.diagnose_reg : (s.diagnose d ph).reg = s.reg := rfl
@[simp] theorem State.diagnose_dat : (s.diagnose d ph).dat = s.dat := rfl
@[simp] theorem State.diagnose_res : (s.diagnose d ph).res = s.res := rfl
@[simp] theorem State.diagnose_ackEn : (s.diagnose d ph).ackEn = s.ackEn := rfl
@[simp] theorem State.diagnose_initd : (s.diagnose d ph).initd = s.initd := rfl
@[simp] theorem State.diagnose_out : (s.diagnose d ph).out = { s.out with diag := some { dir := d, phase := ph } } := rfl
@[simp] theorem State.diagnose_host : (s.diagnose d ph).host = s.host := rfl
@[simp] theorem State.diagnose_env : (s.diagnose d ph).env = s.env := rfl
@[simp] theorem State.diagnose_draws : (s.diagnose d ph).draws = s.draws := rfl
end

section
/-! Entering a wait loads the budget (R84 (a)). -/
variable (s : State) (p : Pc)
@[simp] theorem State.enterWait_pc : (s.enterWait p).pc = p := rfl
@[simp] theorem State.enterWait_cnt : (s.enterWait p).cnt = Config.nTimeout := rfl
@[simp] theorem State.enterWait_dev : (s.enterWait p).dev = s.dev := rfl
@[simp] theorem State.enterWait_reg : (s.enterWait p).reg = s.reg := rfl
@[simp] theorem State.enterWait_dat : (s.enterWait p).dat = s.dat := rfl
@[simp] theorem State.enterWait_res : (s.enterWait p).res = s.res := rfl
@[simp] theorem State.enterWait_ackEn : (s.enterWait p).ackEn = s.ackEn := rfl
@[simp] theorem State.enterWait_initd : (s.enterWait p).initd = s.initd := rfl
@[simp] theorem State.enterWait_out : (s.enterWait p).out = s.out := rfl
@[simp] theorem State.enterWait_host : (s.enterWait p).host = s.host := rfl
@[simp] theorem State.enterWait_env : (s.enterWait p).env = s.env.onEnterWait := rfl
@[simp] theorem State.enterWait_draws : (s.enterWait p).draws = s.draws := rfl
end

section
/-! Accepting a transaction enters its first wait (R90). -/
variable (s : State) (p : Pc)
@[simp] theorem State.beginTransaction_pc : (s.beginTransaction p).pc = p := rfl
@[simp] theorem State.beginTransaction_cnt : (s.beginTransaction p).cnt = Config.nTimeout := rfl
@[simp] theorem State.beginTransaction_dev : (s.beginTransaction p).dev = s.dev := rfl
@[simp] theorem State.beginTransaction_reg : (s.beginTransaction p).reg = s.reg := rfl
@[simp] theorem State.beginTransaction_dat : (s.beginTransaction p).dat = s.dat := rfl
@[simp] theorem State.beginTransaction_res : (s.beginTransaction p).res = s.res := rfl
@[simp] theorem State.beginTransaction_ackEn : (s.beginTransaction p).ackEn = s.ackEn := rfl
@[simp] theorem State.beginTransaction_initd : (s.beginTransaction p).initd = s.initd := rfl
@[simp] theorem State.beginTransaction_out : (s.beginTransaction p).out = s.out := rfl
@[simp] theorem State.beginTransaction_host : (s.beginTransaction p).host = s.host := rfl
@[simp] theorem State.beginTransaction_env : (s.beginTransaction p).env = s.env.onTransaction.onEnterWait := rfl
@[simp] theorem State.beginTransaction_draws : (s.beginTransaction p).draws = s.draws := rfl
end

section
/-! The end of a good command (R67). -/
variable (s : State) (data : Word)
@[simp] theorem State.finish_pc : (s.finish data).pc = .idle := rfl
@[simp] theorem State.finish_cnt : (s.finish data).cnt = s.cnt := rfl
@[simp] theorem State.finish_dev : (s.finish data).dev = s.dev := rfl
@[simp] theorem State.finish_reg : (s.finish data).reg = s.reg := rfl
@[simp] theorem State.finish_dat : (s.finish data).dat = s.dat := rfl
@[simp] theorem State.finish_res : (s.finish data).res = s.res := rfl
@[simp] theorem State.finish_ackEn : (s.finish data).ackEn = s.ackEn := rfl
@[simp] theorem State.finish_initd : (s.finish data).initd = s.initd := rfl
@[simp] theorem State.finish_out : (s.finish data).out = { s.out with rsp := some { data := data, status := .ok, phase := 0#3 } } := rfl
@[simp] theorem State.finish_host : (s.finish data).host = s.host := rfl
@[simp] theorem State.finish_env : (s.finish data).env = s.env := rfl
@[simp] theorem State.finish_draws : (s.finish data).draws = s.draws := rfl
end

section
/-! A refusal writes no register (R120). -/
variable (s : State) (why : RefuseReason)
@[simp] theorem State.raiseRefused_pc : (s.raiseRefused why).pc = s.pc := rfl
@[simp] theorem State.raiseRefused_cnt : (s.raiseRefused why).cnt = s.cnt := rfl
@[simp] theorem State.raiseRefused_dev : (s.raiseRefused why).dev = s.dev := rfl
@[simp] theorem State.raiseRefused_reg : (s.raiseRefused why).reg = s.reg := rfl
@[simp] theorem State.raiseRefused_dat : (s.raiseRefused why).dat = s.dat := rfl
@[simp] theorem State.raiseRefused_res : (s.raiseRefused why).res = s.res := rfl
@[simp] theorem State.raiseRefused_ackEn : (s.raiseRefused why).ackEn = s.ackEn := rfl
@[simp] theorem State.raiseRefused_initd : (s.raiseRefused why).initd = s.initd := rfl
@[simp] theorem State.raiseRefused_out : (s.raiseRefused why).out = { s.out with rsp := some { data := 0#32, status := .refused, phase := 0#3 } } := rfl
@[simp] theorem State.raiseRefused_host : (s.raiseRefused why).host = s.host := rfl
@[simp] theorem State.raiseRefused_env : (s.raiseRefused why).env = s.env := rfl
@[simp] theorem State.raiseRefused_draws : (s.raiseRefused why).draws = s.draws := rfl
end

section
/-! A timeout writes `pc` and nothing else of the CORE (R124, R125). -/
variable (s : State)
@[simp] theorem State.raiseTimeout_pc : s.raiseTimeout.pc = .idle := rfl
@[simp] theorem State.raiseTimeout_cnt : s.raiseTimeout.cnt = s.cnt := rfl
@[simp] theorem State.raiseTimeout_dev : s.raiseTimeout.dev = s.dev := rfl
@[simp] theorem State.raiseTimeout_reg : s.raiseTimeout.reg = s.reg := rfl
@[simp] theorem State.raiseTimeout_dat : s.raiseTimeout.dat = s.dat := rfl
@[simp] theorem State.raiseTimeout_res : s.raiseTimeout.res = s.res := rfl
@[simp] theorem State.raiseTimeout_ackEn : s.raiseTimeout.ackEn = s.ackEn := rfl
@[simp] theorem State.raiseTimeout_initd : s.raiseTimeout.initd = s.initd := rfl
@[simp] theorem State.raiseTimeout_out : s.raiseTimeout.out = { s.out with rsp := some { data := 0#32, status := .timeout, phase := s.pc.ph }, diag := some { dir := s.pc.dir, phase := s.pc.ph } } := rfl
@[simp] theorem State.raiseTimeout_host : s.raiseTimeout.host = s.host := rfl
@[simp] theorem State.raiseTimeout_env : s.raiseTimeout.env = s.env := rfl
@[simp] theorem State.raiseTimeout_draws : s.raiseTimeout.draws = s.draws := rfl
end

section
/-! The reset step (R135). -/
variable (s : State)
@[simp] theorem State.resetStep_pc : s.resetStep.pc = .idle := rfl
@[simp] theorem State.resetStep_cnt : s.resetStep.cnt = Config.resetCnt s.draws := rfl
@[simp] theorem State.resetStep_dev : s.resetStep.dev = Config.resetDev s.draws := rfl
@[simp] theorem State.resetStep_reg : s.resetStep.reg = Config.resetReg s.draws := rfl
@[simp] theorem State.resetStep_dat : s.resetStep.dat = Config.resetDat s.draws := rfl
@[simp] theorem State.resetStep_res : s.resetStep.res = Config.resetRes s.draws := rfl
@[simp] theorem State.resetStep_ackEn : s.resetStep.ackEn = false := rfl
@[simp] theorem State.resetStep_initd : s.resetStep.initd = false := rfl
@[simp] theorem State.resetStep_out : s.resetStep.out = Outputs.none := rfl
@[simp] theorem State.resetStep_host : s.resetStep.host = s.host := rfl
@[simp] theorem State.resetStep_env : s.resetStep.env = s.env.onReset := rfl
@[simp] theorem State.resetStep_draws : s.resetStep.draws = s.draws + 1 := rfl
end

section
/-! The effect of INIT (R93). -/
variable (s : State)
@[simp] theorem State.initEffect_pc : s.initEffect.pc = s.pc := rfl
@[simp] theorem State.initEffect_cnt : s.initEffect.cnt = s.cnt := rfl
@[simp] theorem State.initEffect_dev : s.initEffect.dev = s.dev := rfl
@[simp] theorem State.initEffect_reg : s.initEffect.reg = s.reg := rfl
@[simp] theorem State.initEffect_dat : s.initEffect.dat = s.dat := rfl
@[simp] theorem State.initEffect_res : s.initEffect.res = s.res := rfl
@[simp] theorem State.initEffect_ackEn : s.initEffect.ackEn = true := rfl
@[simp] theorem State.initEffect_initd : s.initEffect.initd = true := rfl
@[simp] theorem State.initEffect_out : s.initEffect.out = { s.out with actions := s.out.actions ++ [.configure], rsp := some { data := 0#32, status := .ok, phase := 0#3 } } := rfl
@[simp] theorem State.initEffect_host : s.initEffect.host = s.host := rfl
@[simp] theorem State.initEffect_env : s.initEffect.env = s.env.onAction .configure := rfl
@[simp] theorem State.initEffect_draws : s.initEffect.draws = s.draws := rfl
end

/-- R83: a failing poll either times out, exactly when one poll is left, or takes one off the counter. -/
theorem State.pollFail_cases (s : State) :
    (s.cnt = 1#32 ∧ s.pollFail = s.raiseTimeout) ∨ (s.cnt ≠ 1#32 ∧ s.pollFail = s.setCnt (s.cnt - 1#32)) := by
  by_cases h : s.cnt = 1#32
  · exact .inl ⟨h, if_pos h⟩
  · exact .inr ⟨h, if_neg h⟩

/-- R61: what `whenAccepted` can answer. -/
theorem State.whenAccepted_idle (s : State) (f : State → State) (h : s.pc = .idle) :
    s.whenAccepted f = .next (f s) := if_pos h

/-- R61: a command that is not accepted has no effect. -/
theorem State.whenAccepted_busy (s : State) (f : State → State) (h : s.pc ≠ .idle) :
    s.whenAccepted f = .next s := if_neg h

end Sys2Proof.Machine
end

