-- ==== Sys2Proof/Laws/Exits.lean ====
section
/-! SUPPORT. What the acceptance of a transaction and each exit do to every field (42_read_byte.md R96 to R104,
43_write_byte.md R108 to R113): later proofs cite these and unfold no exit. -/

namespace Sys2Proof.Machine

section
variable (s : State)
@[simp] theorem State.exitR0_pc : s.exitR0.pc = .r1 := by simp [State.exitR0]
@[simp] theorem State.exitR0_cnt : s.exitR0.cnt = Config.nTimeout := by simp [State.exitR0]
@[simp] theorem State.exitR0_dev : s.exitR0.dev = s.dev := by simp [State.exitR0]
@[simp] theorem State.exitR0_reg : s.exitR0.reg = s.reg := by simp [State.exitR0]
@[simp] theorem State.exitR0_dat : s.exitR0.dat = s.dat := by simp [State.exitR0]
@[simp] theorem State.exitR0_res : s.exitR0.res = s.res := by simp [State.exitR0]
@[simp] theorem State.exitR0_ackEn : s.exitR0.ackEn = s.ackEn := by simp [State.exitR0]
@[simp] theorem State.exitR0_initd : s.exitR0.initd = s.initd := by simp [State.exitR0]
@[simp] theorem State.exitR0_out : s.exitR0.out = { s.out with actions := s.out.actions ++ [.start] } := by simp [State.exitR0]
@[simp] theorem State.exitR0_host : s.exitR0.host = s.host := by simp [State.exitR0]
@[simp] theorem State.exitR0_env : s.exitR0.env = (s.env.onAction .start).onEnterWait := by simp [State.exitR0]
@[simp] theorem State.exitR0_draws : s.exitR0.draws = s.draws := by simp [State.exitR0]
end

section
variable (s : State)
@[simp] theorem State.exitR1_pc : s.exitR1.pc = .r2 := by simp [State.exitR1]
@[simp] theorem State.exitR1_cnt : s.exitR1.cnt = Config.nTimeout := by simp [State.exitR1]
@[simp] theorem State.exitR1_dev : s.exitR1.dev = s.dev := by simp [State.exitR1]
@[simp] theorem State.exitR1_reg : s.exitR1.reg = s.reg := by simp [State.exitR1]
@[simp] theorem State.exitR1_dat : s.exitR1.dat = s.dat := by simp [State.exitR1]
@[simp] theorem State.exitR1_res : s.exitR1.res = s.res := by simp [State.exitR1]
@[simp] theorem State.exitR1_ackEn : s.exitR1.ackEn = s.ackEn := by simp [State.exitR1]
@[simp] theorem State.exitR1_initd : s.exitR1.initd = s.initd := by simp [State.exitR1]
@[simp] theorem State.exitR1_out : s.exitR1.out = { s.out with actions := s.out.actions ++ [.sendAddr (addressByte s.dev .write)] } := by simp [State.exitR1]
@[simp] theorem State.exitR1_host : s.exitR1.host = s.host := by simp [State.exitR1]
@[simp] theorem State.exitR1_env : s.exitR1.env = (s.env.onAction (.sendAddr (addressByte s.dev .write))).onEnterWait := by simp [State.exitR1]
@[simp] theorem State.exitR1_draws : s.exitR1.draws = s.draws := by simp [State.exitR1]
end

section
variable (s : State)
@[simp] theorem State.exitR2_pc : s.exitR2.pc = .r3 := by simp [State.exitR2]
@[simp] theorem State.exitR2_cnt : s.exitR2.cnt = Config.nTimeout := by simp [State.exitR2]
@[simp] theorem State.exitR2_dev : s.exitR2.dev = s.dev := by simp [State.exitR2]
@[simp] theorem State.exitR2_reg : s.exitR2.reg = s.reg := by simp [State.exitR2]
@[simp] theorem State.exitR2_dat : s.exitR2.dat = s.dat := by simp [State.exitR2]
@[simp] theorem State.exitR2_res : s.exitR2.res = s.res := by simp [State.exitR2]
@[simp] theorem State.exitR2_ackEn : s.exitR2.ackEn = s.ackEn := by simp [State.exitR2]
@[simp] theorem State.exitR2_initd : s.exitR2.initd = s.initd := by simp [State.exitR2]
@[simp] theorem State.exitR2_out : s.exitR2.out = { s.out with actions := s.out.actions ++ [.sendData s.reg] } := by simp [State.exitR2]
@[simp] theorem State.exitR2_host : s.exitR2.host = s.host := by simp [State.exitR2]
@[simp] theorem State.exitR2_env : s.exitR2.env = (s.env.onAction (.sendData s.reg)).onEnterWait := by simp [State.exitR2]
@[simp] theorem State.exitR2_draws : s.exitR2.draws = s.draws := by simp [State.exitR2]
end

section
variable (s : State)
@[simp] theorem State.exitR3_pc : s.exitR3.pc = .r4 := by simp [State.exitR3]
@[simp] theorem State.exitR3_cnt : s.exitR3.cnt = Config.nTimeout := by simp [State.exitR3]
@[simp] theorem State.exitR3_dev : s.exitR3.dev = s.dev := by simp [State.exitR3]
@[simp] theorem State.exitR3_reg : s.exitR3.reg = s.reg := by simp [State.exitR3]
@[simp] theorem State.exitR3_dat : s.exitR3.dat = s.dat := by simp [State.exitR3]
@[simp] theorem State.exitR3_res : s.exitR3.res = s.res := by simp [State.exitR3]
@[simp] theorem State.exitR3_ackEn : s.exitR3.ackEn = s.ackEn := by simp [State.exitR3]
@[simp] theorem State.exitR3_initd : s.exitR3.initd = s.initd := by simp [State.exitR3]
@[simp] theorem State.exitR3_out : s.exitR3.out = { s.out with actions := s.out.actions ++ [.start] } := by simp [State.exitR3]
@[simp] theorem State.exitR3_host : s.exitR3.host = s.host := by simp [State.exitR3]
@[simp] theorem State.exitR3_env : s.exitR3.env = (s.env.onAction .start).onEnterWait := by simp [State.exitR3]
@[simp] theorem State.exitR3_draws : s.exitR3.draws = s.draws := by simp [State.exitR3]
end

section
variable (s : State)
@[simp] theorem State.exitR4_pc : s.exitR4.pc = .r5 := by simp [State.exitR4]
@[simp] theorem State.exitR4_cnt : s.exitR4.cnt = Config.nTimeout := by simp [State.exitR4]
@[simp] theorem State.exitR4_dev : s.exitR4.dev = s.dev := by simp [State.exitR4]
@[simp] theorem State.exitR4_reg : s.exitR4.reg = s.reg := by simp [State.exitR4]
@[simp] theorem State.exitR4_dat : s.exitR4.dat = s.dat := by simp [State.exitR4]
@[simp] theorem State.exitR4_res : s.exitR4.res = s.res := by simp [State.exitR4]
@[simp] theorem State.exitR4_ackEn : s.exitR4.ackEn = s.ackEn := by simp [State.exitR4]
@[simp] theorem State.exitR4_initd : s.exitR4.initd = s.initd := by simp [State.exitR4]
@[simp] theorem State.exitR4_out : s.exitR4.out = { s.out with actions := s.out.actions ++ [.sendAddr (addressByte s.dev .read)] } := by simp [State.exitR4]
@[simp] theorem State.exitR4_host : s.exitR4.host = s.host := by simp [State.exitR4]
@[simp] theorem State.exitR4_env : s.exitR4.env = (s.env.onAction (.sendAddr (addressByte s.dev .read))).onEnterWait := by simp [State.exitR4]
@[simp] theorem State.exitR4_draws : s.exitR4.draws = s.draws := by simp [State.exitR4]
end

section
variable (s : State)
@[simp] theorem State.exitR5_pc : s.exitR5.pc = .r6 := by simp [State.exitR5]
@[simp] theorem State.exitR5_cnt : s.exitR5.cnt = Config.nTimeout := by simp [State.exitR5]
@[simp] theorem State.exitR5_dev : s.exitR5.dev = s.dev := by simp [State.exitR5]
@[simp] theorem State.exitR5_reg : s.exitR5.reg = s.reg := by simp [State.exitR5]
@[simp] theorem State.exitR5_dat : s.exitR5.dat = s.dat := by simp [State.exitR5]
@[simp] theorem State.exitR5_res : s.exitR5.res = s.res := by simp [State.exitR5]
@[simp] theorem State.exitR5_ackEn : s.exitR5.ackEn = false := by simp [State.exitR5]
@[simp] theorem State.exitR5_initd : s.exitR5.initd = s.initd := by simp [State.exitR5]
@[simp] theorem State.exitR5_out : s.exitR5.out = { s.out with actions := s.out.actions ++ [.ackDisable, .clearAddr, .stop] } := by simp [State.exitR5]
@[simp] theorem State.exitR5_host : s.exitR5.host = s.host := by simp [State.exitR5]
@[simp] theorem State.exitR5_env : s.exitR5.env = (((s.env.onAction .ackDisable).onAction .clearAddr).onAction .stop).onEnterWait := by simp [State.exitR5]
@[simp] theorem State.exitR5_draws : s.exitR5.draws = s.draws := by simp [State.exitR5]
end

section
variable (s : State) (f : FlagSample)
@[simp] theorem State.exitR6_pc : (s.exitR6 f).pc = .r7 := by simp [State.exitR6]
@[simp] theorem State.exitR6_cnt : (s.exitR6 f).cnt = Config.nTimeout := by simp [State.exitR6]
@[simp] theorem State.exitR6_dev : (s.exitR6 f).dev = s.dev := by simp [State.exitR6]
@[simp] theorem State.exitR6_reg : (s.exitR6 f).reg = s.reg := by simp [State.exitR6]
@[simp] theorem State.exitR6_dat : (s.exitR6 f).dat = s.dat := by simp [State.exitR6]
@[simp] theorem State.exitR6_res : (s.exitR6 f).res = f.rxData := by simp [State.exitR6]
@[simp] theorem State.exitR6_ackEn : (s.exitR6 f).ackEn = s.ackEn := by simp [State.exitR6]
@[simp] theorem State.exitR6_initd : (s.exitR6 f).initd = s.initd := by simp [State.exitR6]
@[simp] theorem State.exitR6_out : (s.exitR6 f).out = { s.out with actions := s.out.actions ++ [.readData] } := by simp [State.exitR6]
@[simp] theorem State.exitR6_host : (s.exitR6 f).host = s.host := by simp [State.exitR6]
@[simp] theorem State.exitR6_env : (s.exitR6 f).env = (s.env.onAction .readData).onEnterWait := by simp [State.exitR6]
@[simp] theorem State.exitR6_draws : (s.exitR6 f).draws = s.draws := by simp [State.exitR6]
end

section
variable (s : State)
@[simp] theorem State.exitR7_pc : s.exitR7.pc = .idle := by simp [State.exitR7]
@[simp] theorem State.exitR7_cnt : s.exitR7.cnt = s.cnt := by simp [State.exitR7]
@[simp] theorem State.exitR7_dev : s.exitR7.dev = s.dev := by simp [State.exitR7]
@[simp] theorem State.exitR7_reg : s.exitR7.reg = s.reg := by simp [State.exitR7]
@[simp] theorem State.exitR7_dat : s.exitR7.dat = s.dat := by simp [State.exitR7]
@[simp] theorem State.exitR7_res : s.exitR7.res = s.res := by simp [State.exitR7]
@[simp] theorem State.exitR7_ackEn : s.exitR7.ackEn = true := by simp [State.exitR7]
@[simp] theorem State.exitR7_initd : s.exitR7.initd = s.initd := by simp [State.exitR7]
@[simp] theorem State.exitR7_out : s.exitR7.out = { s.out with actions := s.out.actions ++ [.ackEnable, .clearAf], rsp := some { data := resultWord s.res, status := .ok, phase := 0#3 } } := by simp [State.exitR7]
@[simp] theorem State.exitR7_host : s.exitR7.host = s.host := by simp [State.exitR7]
@[simp] theorem State.exitR7_env : s.exitR7.env = (s.env.onAction .ackEnable).onAction .clearAf := by simp [State.exitR7]
@[simp] theorem State.exitR7_draws : s.exitR7.draws = s.draws := by simp [State.exitR7]
end

section
variable (s : State)
@[simp] theorem State.exitW0_pc : s.exitW0.pc = .w1 := by simp [State.exitW0]
@[simp] theorem State.exitW0_cnt : s.exitW0.cnt = Config.nTimeout := by simp [State.exitW0]
@[simp] theorem State.exitW0_dev : s.exitW0.dev = s.dev := by simp [State.exitW0]
@[simp] theorem State.exitW0_reg : s.exitW0.reg = s.reg := by simp [State.exitW0]
@[simp] theorem State.exitW0_dat : s.exitW0.dat = s.dat := by simp [State.exitW0]
@[simp] theorem State.exitW0_res : s.exitW0.res = s.res := by simp [State.exitW0]
@[simp] theorem State.exitW0_ackEn : s.exitW0.ackEn = s.ackEn := by simp [State.exitW0]
@[simp] theorem State.exitW0_initd : s.exitW0.initd = s.initd := by simp [State.exitW0]
@[simp] theorem State.exitW0_out : s.exitW0.out = { s.out with actions := s.out.actions ++ [.start] } := by simp [State.exitW0]
@[simp] theorem State.exitW0_host : s.exitW0.host = s.host := by simp [State.exitW0]
@[simp] theorem State.exitW0_env : s.exitW0.env = (s.env.onAction .start).onEnterWait := by simp [State.exitW0]
@[simp] theorem State.exitW0_draws : s.exitW0.draws = s.draws := by simp [State.exitW0]
end

section
variable (s : State)
@[simp] theorem State.exitW1_pc : s.exitW1.pc = .w2 := by simp [State.exitW1]
@[simp] theorem State.exitW1_cnt : s.exitW1.cnt = Config.nTimeout := by simp [State.exitW1]
@[simp] theorem State.exitW1_dev : s.exitW1.dev = s.dev := by simp [State.exitW1]
@[simp] theorem State.exitW1_reg : s.exitW1.reg = s.reg := by simp [State.exitW1]
@[simp] theorem State.exitW1_dat : s.exitW1.dat = s.dat := by simp [State.exitW1]
@[simp] theorem State.exitW1_res : s.exitW1.res = s.res := by simp [State.exitW1]
@[simp] theorem State.exitW1_ackEn : s.exitW1.ackEn = s.ackEn := by simp [State.exitW1]
@[simp] theorem State.exitW1_initd : s.exitW1.initd = s.initd := by simp [State.exitW1]
@[simp] theorem State.exitW1_out : s.exitW1.out = { s.out with actions := s.out.actions ++ [.sendAddr (addressByte s.dev .write)] } := by simp [State.exitW1]
@[simp] theorem State.exitW1_host : s.exitW1.host = s.host := by simp [State.exitW1]
@[simp] theorem State.exitW1_env : s.exitW1.env = (s.env.onAction (.sendAddr (addressByte s.dev .write))).onEnterWait := by simp [State.exitW1]
@[simp] theorem State.exitW1_draws : s.exitW1.draws = s.draws := by simp [State.exitW1]
end

section
variable (s : State)
@[simp] theorem State.exitW2_pc : s.exitW2.pc = .w3 := by simp [State.exitW2]
@[simp] theorem State.exitW2_cnt : s.exitW2.cnt = Config.nTimeout := by simp [State.exitW2]
@[simp] theorem State.exitW2_dev : s.exitW2.dev = s.dev := by simp [State.exitW2]
@[simp] theorem State.exitW2_reg : s.exitW2.reg = s.reg := by simp [State.exitW2]
@[simp] theorem State.exitW2_dat : s.exitW2.dat = s.dat := by simp [State.exitW2]
@[simp] theorem State.exitW2_res : s.exitW2.res = s.res := by simp [State.exitW2]
@[simp] theorem State.exitW2_ackEn : s.exitW2.ackEn = s.ackEn := by simp [State.exitW2]
@[simp] theorem State.exitW2_initd : s.exitW2.initd = s.initd := by simp [State.exitW2]
@[simp] theorem State.exitW2_out : s.exitW2.out = { s.out with actions := s.out.actions ++ [.sendData s.reg] } := by simp [State.exitW2]
@[simp] theorem State.exitW2_host : s.exitW2.host = s.host := by simp [State.exitW2]
@[simp] theorem State.exitW2_env : s.exitW2.env = (s.env.onAction (.sendData s.reg)).onEnterWait := by simp [State.exitW2]
@[simp] theorem State.exitW2_draws : s.exitW2.draws = s.draws := by simp [State.exitW2]
end

section
variable (s : State)
@[simp] theorem State.exitW3_pc : s.exitW3.pc = .w4 := by simp [State.exitW3]
@[simp] theorem State.exitW3_cnt : s.exitW3.cnt = Config.nTimeout := by simp [State.exitW3]
@[simp] theorem State.exitW3_dev : s.exitW3.dev = s.dev := by simp [State.exitW3]
@[simp] theorem State.exitW3_reg : s.exitW3.reg = s.reg := by simp [State.exitW3]
@[simp] theorem State.exitW3_dat : s.exitW3.dat = s.dat := by simp [State.exitW3]
@[simp] theorem State.exitW3_res : s.exitW3.res = s.res := by simp [State.exitW3]
@[simp] theorem State.exitW3_ackEn : s.exitW3.ackEn = s.ackEn := by simp [State.exitW3]
@[simp] theorem State.exitW3_initd : s.exitW3.initd = s.initd := by simp [State.exitW3]
@[simp] theorem State.exitW3_out : s.exitW3.out = { s.out with actions := s.out.actions ++ [.sendData s.dat] } := by simp [State.exitW3]
@[simp] theorem State.exitW3_host : s.exitW3.host = s.host := by simp [State.exitW3]
@[simp] theorem State.exitW3_env : s.exitW3.env = (s.env.onAction (.sendData s.dat)).onEnterWait := by simp [State.exitW3]
@[simp] theorem State.exitW3_draws : s.exitW3.draws = s.draws := by simp [State.exitW3]
end

section
variable (s : State)
@[simp] theorem State.exitW4_pc : s.exitW4.pc = .idle := by simp [State.exitW4]
@[simp] theorem State.exitW4_cnt : s.exitW4.cnt = s.cnt := by simp [State.exitW4]
@[simp] theorem State.exitW4_dev : s.exitW4.dev = s.dev := by simp [State.exitW4]
@[simp] theorem State.exitW4_reg : s.exitW4.reg = s.reg := by simp [State.exitW4]
@[simp] theorem State.exitW4_dat : s.exitW4.dat = s.dat := by simp [State.exitW4]
@[simp] theorem State.exitW4_res : s.exitW4.res = s.res := by simp [State.exitW4]
@[simp] theorem State.exitW4_ackEn : s.exitW4.ackEn = s.ackEn := by simp [State.exitW4]
@[simp] theorem State.exitW4_initd : s.exitW4.initd = s.initd := by simp [State.exitW4]
@[simp] theorem State.exitW4_out : s.exitW4.out = { s.out with actions := s.out.actions ++ [.stop], rsp := some { data := 0#32, status := .ok, phase := 0#3 } } := by simp [State.exitW4]
@[simp] theorem State.exitW4_host : s.exitW4.host = s.host := by simp [State.exitW4]
@[simp] theorem State.exitW4_env : s.exitW4.env = s.env.onAction .stop := by simp [State.exitW4]
@[simp] theorem State.exitW4_draws : s.exitW4.draws = s.draws := by simp [State.exitW4]
end

section
variable (s : State) (a : DevAddr) (r : Byte)
@[simp] theorem State.readEffect_pc : (s.readEffect a r).pc = .r0 := by simp [State.readEffect]
@[simp] theorem State.readEffect_cnt : (s.readEffect a r).cnt = Config.nTimeout := by simp [State.readEffect]
@[simp] theorem State.readEffect_dev : (s.readEffect a r).dev = a := by simp [State.readEffect]
@[simp] theorem State.readEffect_reg : (s.readEffect a r).reg = r := by simp [State.readEffect]
@[simp] theorem State.readEffect_dat : (s.readEffect a r).dat = s.dat := by simp [State.readEffect]
@[simp] theorem State.readEffect_res : (s.readEffect a r).res = s.res := by simp [State.readEffect]
@[simp] theorem State.readEffect_ackEn : (s.readEffect a r).ackEn = s.ackEn := by simp [State.readEffect]
@[simp] theorem State.readEffect_initd : (s.readEffect a r).initd = s.initd := by simp [State.readEffect]
@[simp] theorem State.readEffect_out : (s.readEffect a r).out = s.out := by simp [State.readEffect]
@[simp] theorem State.readEffect_host : (s.readEffect a r).host = s.host := by simp [State.readEffect]
@[simp] theorem State.readEffect_env : (s.readEffect a r).env = s.env.onTransaction.onEnterWait := by simp [State.readEffect]
@[simp] theorem State.readEffect_draws : (s.readEffect a r).draws = s.draws := by simp [State.readEffect]
end

section
variable (s : State) (a : DevAddr) (r v : Byte)
@[simp] theorem State.writeEffect_pc : (s.writeEffect a r v).pc = .w0 := by simp [State.writeEffect]
@[simp] theorem State.writeEffect_cnt : (s.writeEffect a r v).cnt = Config.nTimeout := by simp [State.writeEffect]
@[simp] theorem State.writeEffect_dev : (s.writeEffect a r v).dev = a := by simp [State.writeEffect]
@[simp] theorem State.writeEffect_reg : (s.writeEffect a r v).reg = r := by simp [State.writeEffect]
@[simp] theorem State.writeEffect_dat : (s.writeEffect a r v).dat = v := by simp [State.writeEffect]
@[simp] theorem State.writeEffect_res : (s.writeEffect a r v).res = s.res := by simp [State.writeEffect]
@[simp] theorem State.writeEffect_ackEn : (s.writeEffect a r v).ackEn = s.ackEn := by simp [State.writeEffect]
@[simp] theorem State.writeEffect_initd : (s.writeEffect a r v).initd = s.initd := by simp [State.writeEffect]
@[simp] theorem State.writeEffect_out : (s.writeEffect a r v).out = s.out := by simp [State.writeEffect]
@[simp] theorem State.writeEffect_host : (s.writeEffect a r v).host = s.host := by simp [State.writeEffect]
@[simp] theorem State.writeEffect_env : (s.writeEffect a r v).env = s.env.onTransaction.onEnterWait := by simp [State.writeEffect]
@[simp] theorem State.writeEffect_draws : (s.writeEffect a r v).draws = s.draws := by simp [State.writeEffect]
end

end Sys2Proof.Machine
end

