-- ==== Sys2Proof/Laws/PerInstr.lean ====
section
/-! SUPPORT. Facts said of every command as syntax, one lemma per constructor. EncodingRow: the command's word lies in
its row of spec/opcode_table.json (30_encoding.md R63, R64, R65). -/

namespace Sys2Proof.Laws.EncodingRow

/-- Under its row's mask the command's word is its row's match. -/
def Statement (i : Instr) : Prop := encode i &&& i.rowMask = i.rowMatch

theorem init : Statement .init := by unfold Statement; decide

theorem wrb (addr : DevAddr) (reg val : Byte) : Statement (.wrb addr reg val) := by
  show (0#6 ++ 0b10#2 ++ 0#1 ++ addr ++ reg ++ val) &&& 0xFF800000#32 = 0x02000000#32
  ext k hk
  simp only [BitVec.getElem_and, BitVec.getElem_append]
  interval_cases k <;> simp

theorem rdb (addr : DevAddr) (reg : Byte) : Statement (.rdb addr reg) := by
  show (0#6 ++ 0b11#2 ++ 0#1 ++ addr ++ reg ++ 0#8) &&& 0xFF8000FF#32 = 0x03000000#32
  ext k hk
  simp only [BitVec.getElem_and, BitVec.getElem_append]
  interval_cases k <;> simp

end Sys2Proof.Laws.EncodingRow
end

