-- ==== Sys2Proof/Laws/Step.lean ====
section
/-! SUPPORT. What a step can do, said once (40_sequencer_common.md R80): proofs take a step apart with these and unfold
neither `step` nor `exec`. -/

namespace Sys2Proof.Machine

/-- The sample does not depend on the outputs or on the host (R41). -/
@[simp] theorem State.beginStep_sample (s : State) : s.beginStep.sample = s.sample := rfl

/-- The state in which an accepted command leaves the machine. -/
def afterCommand (i : Instr) (s : State) : State :=
  match i with
  | .init => if s.initd then s.raiseRefused .initRepeated else s.initEffect
  | .wrb a r v => if s.initd then s.writeEffect a r v else s.raiseRefused .notInitialized
  | .rdb a r => if s.initd then s.readEffect a r else s.raiseRefused .notInitialized

/-- R90: an accepted command's meaning. -/
theorem exec_idle (i : Instr) {s : State} (h : s.pc = .idle) : exec i s = .next (afterCommand i s) := by
  cases i <;> simp only [exec, execInit, execWrb, execRdb, State.whenAccepted_idle _ _ h, afterCommand]

/-- R61: a command that is not accepted has no effect. -/
theorem exec_busy (i : Instr) {s : State} (h : s.pc ≠ .idle) : exec i s = .next s := by
  cases i <;> simp only [exec, execInit, execWrb, execRdb, State.whenAccepted_busy _ _ h]

/-- R80 case 1. -/
theorem step_reset {s : State} (h : s.hostNow.rst = true) : step s = .next s.beginStep.resetStep := if_pos h

/-- R80 case 2. -/
theorem step_idle {s : State} (hr : s.hostNow.rst = false) (hp : s.pc = .idle) (hc : s.hostNow.cmd = none) :
    step s = .next s.beginStep := by
  simp [step, stepWith, hr, hp, hc, State.idleStep]

/-- R80 case 3, a legal word. -/
theorem step_command {s : State} {w : Word} {i : Instr} (hr : s.hostNow.rst = false) (hp : s.pc = .idle)
    (hc : s.hostNow.cmd = some w) (hd : decode w = .ok i) : step s = .next (afterCommand i s.beginStep) := by
  simp [step, stepWith, hr, hp, hc, State.accept, hd, exec_idle i (s := s.beginStep) hp]

/-- R80 case 3, an illegal word. -/
theorem step_illegal {s : State} {w : Word} {e : Illegal} (hr : s.hostNow.rst = false) (hp : s.pc = .idle)
    (hc : s.hostNow.cmd = some w) (hd : decode w = .error e) :
    step s = .next (s.beginStep.raiseRefused .illegalEncoding) := by
  simp [step, stepWith, hr, hp, hc, State.accept, hd]

/-- R80 case 4. -/
theorem step_poll {s : State} (hr : s.hostNow.rst = false) (hp : s.pc ≠ .idle) : step s = .next s.beginStep.poll := by
  simp [step, stepWith, hr, hp]

/-- R80: every step answers a next state, in one of five ways. -/
theorem step_cases {s t : State} (h : step s = .next t) :
    (s.hostNow.rst = true ∧ t = s.beginStep.resetStep) ∨
    (s.hostNow.rst = false ∧ s.pc = .idle ∧ s.hostNow.cmd = none ∧ t = s.beginStep) ∨
    (s.hostNow.rst = false ∧ s.pc = .idle ∧
      ∃ w i, s.hostNow.cmd = some w ∧ decode w = .ok i ∧ t = afterCommand i s.beginStep) ∨
    (s.hostNow.rst = false ∧ s.pc = .idle ∧
      ∃ w e, s.hostNow.cmd = some w ∧ decode w = .error e ∧ t = s.beginStep.raiseRefused .illegalEncoding) ∨
    (s.hostNow.rst = false ∧ s.pc ≠ .idle ∧ t = s.beginStep.poll) := by
  have key : ∀ {u : State}, step s = .next u → t = u := by
    intro u hu
    rw [h] at hu
    exact Host.Outcome.next.inj hu
  cases hr : s.hostNow.rst with
  | true => exact .inl ⟨rfl, key (step_reset hr)⟩
  | false =>
    by_cases hp : s.pc = .idle
    · cases hc : s.hostNow.cmd with
      | none => exact .inr (.inl ⟨rfl, hp, rfl, key (step_idle hr hp hc)⟩)
      | some w =>
        cases hd : decode w with
        | ok i => exact .inr (.inr (.inl ⟨rfl, hp, w, i, rfl, hd, key (step_command hr hp hc hd)⟩))
        | error e => exact .inr (.inr (.inr (.inl ⟨rfl, hp, w, e, rfl, hd, key (step_illegal hr hp hc hd)⟩)))
    · exact .inr (.inr (.inr (.inr ⟨rfl, hp, key (step_poll hr hp)⟩)))

/-- What a poll can do: the exit of the wait, a timeout, or one poll less (R82, R83). -/
theorem poll_cases (s : State) :
    (waitCond s.pc s.sample = true ∧ s.poll = s.sampled.exitWait s.sample) ∨
    (waitCond s.pc s.sample = false ∧ s.cnt = 1#32 ∧ s.poll = s.sampled.raiseTimeout) ∨
    (waitCond s.pc s.sample = false ∧ s.cnt ≠ 1#32 ∧ s.poll = s.sampled.setCnt (s.cnt - 1#32)) := by
  cases hc : waitCond s.pc s.sample with
  | true => exact .inl ⟨rfl, by simp [State.poll, State.pollOn, hc]⟩
  | false =>
    have hp : s.poll = s.sampled.pollFail := by simp [State.poll, State.pollOn, hc]
    rcases State.pollFail_cases s.sampled with ⟨h1, h2⟩ | ⟨h1, h2⟩
    · exact .inr (.inl ⟨rfl, h1, hp.trans h2⟩)
    · exact .inr (.inr ⟨rfl, h1, hp.trans h2⟩)

/-- Every step, down to the command and the poll it is: one case for each row of R21. -/
theorem step_cases_full {s t : State} (h : step s = .next t) :
    (s.hostNow.rst = true ∧ t = s.beginStep.resetStep) ∨
    (s.hostNow.rst = false ∧ s.pc = .idle ∧ s.hostNow.cmd = none ∧ t = s.beginStep) ∨
    (s.hostNow.rst = false ∧ s.pc = .idle ∧ ∃ w, s.hostNow.cmd = some w ∧
      ((∃ e, decode w = .error e ∧ t = s.beginStep.raiseRefused .illegalEncoding) ∨
        (decode w = .ok .init ∧ s.initd = true ∧ t = s.beginStep.raiseRefused .initRepeated) ∨
        (decode w = .ok .init ∧ s.initd = false ∧ t = s.beginStep.initEffect) ∨
        (∃ a r v, decode w = .ok (.wrb a r v) ∧ s.initd = true ∧ t = s.beginStep.writeEffect a r v) ∨
        (∃ a r v, decode w = .ok (.wrb a r v) ∧ s.initd = false ∧ t = s.beginStep.raiseRefused .notInitialized) ∨
        (∃ a r, decode w = .ok (.rdb a r) ∧ s.initd = true ∧ t = s.beginStep.readEffect a r) ∨
        (∃ a r, decode w = .ok (.rdb a r) ∧ s.initd = false ∧ t = s.beginStep.raiseRefused .notInitialized))) ∨
    (s.hostNow.rst = false ∧ s.pc ≠ .idle ∧ waitCond s.pc s.sample = true ∧
      t = s.beginStep.sampled.exitWait s.sample) ∨
    (s.hostNow.rst = false ∧ s.pc ≠ .idle ∧ waitCond s.pc s.sample = false ∧ s.cnt = 1#32 ∧
      t = s.beginStep.sampled.raiseTimeout) ∨
    (s.hostNow.rst = false ∧ s.pc ≠ .idle ∧ waitCond s.pc s.sample = false ∧ s.cnt ≠ 1#32 ∧
      t = s.beginStep.sampled.setCnt (s.cnt - 1#32)) := by
  rcases step_cases h with h | h | ⟨hr, hp, w, i, hc, hd, ht⟩ | ⟨hr, hp, w, e, hc, hd, ht⟩ | ⟨hr, hp, ht⟩
  · exact .inl h
  · exact .inr (.inl h)
  · refine .inr (.inr (.inl ⟨hr, hp, w, hc, ?_⟩))
    cases i <;> cases hx : s.initd <;> simp [afterCommand, hx] at ht <;> simp [hd, ht]
  · exact .inr (.inr (.inl ⟨hr, hp, w, hc, .inl ⟨e, hd, ht⟩⟩))
  · rcases poll_cases s.beginStep with ⟨h1, h2⟩ | ⟨h1, h2, h3⟩ | ⟨h1, h2, h3⟩
    · exact .inr (.inr (.inr (.inl ⟨hr, hp, h1, ht.trans h2⟩)))
    · exact .inr (.inr (.inr (.inr (.inl ⟨hr, hp, h1, h2, ht.trans h3⟩))))
    · exact .inr (.inr (.inr (.inr (.inr ⟨hr, hp, h1, h2, ht.trans h3⟩))))

/-- R82: a poll whose condition is true. -/
theorem step_exit {s : State} (hr : s.hostNow.rst = false) (hp : s.pc ≠ .idle) (hc : waitCond s.pc s.sample = true) :
    step s = .next (s.beginStep.sampled.exitWait s.sample) := by
  rw [step_poll hr hp]
  simp [State.poll, State.pollOn, hc]

/-- R83, R124: a failing poll with one poll left. -/
theorem step_timeout {s : State} (hr : s.hostNow.rst = false) (hp : s.pc ≠ .idle)
    (hc : waitCond s.pc s.sample = false) (h1 : s.cnt = 1#32) : step s = .next s.beginStep.sampled.raiseTimeout := by
  rw [step_poll hr hp]
  simp [State.poll, State.pollOn, hc, State.pollFail, h1]

/-- R83: a failing poll with more polls left. -/
theorem step_pollFail {s : State} (hr : s.hostNow.rst = false) (hp : s.pc ≠ .idle)
    (hc : waitCond s.pc s.sample = false) (h1 : s.cnt ≠ 1#32) :
    step s = .next (s.beginStep.sampled.setCnt (s.cnt - 1#32)) := by
  rw [step_poll hr hp]
  simp [State.poll, State.pollOn, hc, State.pollFail, h1]

/-- The thirteen wait states (R20). -/
theorem Pc.wait_cases {p : Pc} (h : p ≠ .idle) :
    p = .w0 ∨ p = .w1 ∨ p = .w2 ∨ p = .w3 ∨ p = .w4 ∨ p = .r0 ∨ p = .r1 ∨ p = .r2 ∨ p = .r3 ∨ p = .r4 ∨ p = .r5 ∨
      p = .r6 ∨ p = .r7 := by
  cases p <;> simp at *

/-- What a legal word decodes to carries the word's own fields (R73). -/
theorem decode_fields {w : Word} {i : Instr} (h : decode w = .ok i) :
    i = .init ∨ i = .wrb w.addr7 w.reg8 w.val8 ∨ i = .rdb w.addr7 w.reg8 := by
  unfold decode at h
  split at h
  · simp_all
  · split at h
    · simp_all
    · split at h <;> simp_all

end Sys2Proof.Machine
end

