-- ==== Sys2Proof/Laws/Run.lean ====
section
/-! SUPPORT. Runs of several steps: one step taken off the front, and the host's inputs along a run. -/

namespace Sys2Proof.Machine

@[simp] theorem run_zero (s : State) : Host.Core.run core 0 s = .next s := rfl

theorem run_succ {s t : State} (k : Nat) (h : step s = .next t) :
    Host.Core.run core (k + 1) s = Host.Core.run core k t := by
  have h' : core.step s = .next t := h
  simp only [Host.Core.run, h']

/-- One more step at the end of a run. -/
theorem run_snoc {s t u : State} (k : Nat) (hk : Host.Core.run core k s = .next t) (h : step t = .next u) :
    Host.Core.run core (k + 1) s = .next u := by
  induction k generalizing s with
  | zero =>
    cases hk
    rw [run_succ 0 h]
    rfl
  | succ k ih =>
    cases hv : step s with
    | next v =>
      rw [run_succ k hv] at hk
      rw [run_succ (k + 1) hv]
      exact ih hk
    | fault r => exact nomatch r
    | refused r =>
      have hv' : core.step s = .refused r := hv
      simp only [Host.Core.run, hv'] at hk
      cases hk

theorem runTrace_succ {s t : State} (k : Nat) (h : step s = .next t) :
    runTrace (k + 1) s = (runTrace k t).map fun r => (t.out.actions ++ r.1, r.2) := by
  rw [runTrace, h]
  cases hk : runTrace k t <;> simp [hk]

/-- No reset in the next step and none in the `k` after it. -/
theorem State.noReset_succ {s : State} {k : Nat} (h : s.noReset (k + 1)) : s.hostNow.rst = false := by
  unfold State.noReset at h
  cases hh : s.host with
  | nil => simp [State.hostNow, hh, HostInput.quiet]
  | cons i l => simpa [State.hostNow, hh] using h i (by simp [hh])

theorem State.noReset_tail {s t : State} {k : Nat} (h : s.noReset (k + 1)) (ht : t.host = s.host.tail) : t.noReset k := by
  intro i hi
  apply h
  rw [ht] at hi
  cases hh : s.host with
  | nil => simp [hh] at hi
  | cons j l => simp [hh] at hi ⊢; exact .inr hi

/-- Every step takes one entry off the host's list. -/
theorem step_host {s t : State} (h : step s = .next t) : t.host = s.host.tail := by
  rcases step_cases h with ⟨-, rfl⟩ | ⟨-, -, -, rfl⟩ | ⟨-, -, w, i, -, -, rfl⟩ | ⟨-, -, w, e, -, -, rfl⟩ | ⟨-, hp, rfl⟩
  · rfl
  · rfl
  · cases i <;> cases hi : s.initd <;> simp [afterCommand, hi, State.readEffect, State.writeEffect]
  · rfl
  · rcases poll_cases s.beginStep with ⟨-, h⟩ | ⟨-, -, h⟩ | ⟨-, -, h⟩ <;> rw [h]
    · unfold State.exitWait
      split <;> simp [State.exitW0, State.exitW1, State.exitW2, State.exitW3, State.exitW4, State.exitR0, State.exitR1,
        State.exitR2, State.exitR3, State.exitR4, State.exitR5, State.exitR6, State.exitR7]
    · simp
    · simp

end Sys2Proof.Machine
end

