-- ==== Sys2Proof/Machine/Facade.lean ====
section
/-! DEFINITION. The facade's pseudo-instructions as fixed sequences of commands (30_encoding.md R75, R76). The facade is
software above the CORE and out of its scope (00_scope.md R5): no step depends on this file. R77's register and value
pairs are not in the spec. -/

namespace Sys2Proof.Machine

/-- The facade's operations that expand to commands the spec can write down (R75, R76). -/
inductive Pseudo where
  | writeGyroRegister (reg val : Byte)
  | writeAccelMagRegister (reg val : Byte)
  | readGyroRegister (reg : Byte)
  | readAccelMagRegister (reg : Byte)
  | readAngularRate
  | readAcceleration
  | readMagneticField
  deriving DecidableEq, Repr

/-- Six reads at six consecutive registers of one device: low and high byte of x, y and z (R76). -/
def sampleReads (dev : DevAddr) (base : Fin 251) : List Instr :=
  (List.range 6).map fun k => .rdb dev (BitVec.ofNat 8 (base.val + k))

/-- The commands a pseudo-instruction stands for (R75, R76). -/
def Pseudo.expand : Pseudo → List Instr
  | .writeGyroRegister r v => [.wrb Config.addrGyro r v]
  | .writeAccelMagRegister r v => [.wrb Config.addrXm r v]
  | .readGyroRegister r => [.rdb Config.addrGyro r]
  | .readAccelMagRegister r => [.rdb Config.addrXm r]
  | .readAngularRate => sampleReads Config.addrGyro Config.baseAngularRate
  | .readAcceleration => sampleReads Config.addrXm Config.baseAcceleration
  | .readMagneticField => sampleReads Config.addrXm Config.baseMagneticField

/-- One axis of a sample: `(high << 8) | low` as a signed 16-bit value (R76, R45 (c)). -/
def rawSample (low high : Byte) : Int := BitVec.toInt (high ++ low)

/-- The numerator over 32768 of the scale constant of a sample read (R76); none where the operation scales nothing. -/
def Pseudo.scaleNumerator : Pseudo → Option Int
  | .readAngularRate => some 245
  | .readAcceleration | .readMagneticField => some 2
  | .writeGyroRegister _ _ | .writeAccelMagRegister _ _ | .readGyroRegister _ | .readAccelMagRegister _ => none

/-- `trunc_toward_zero(raw * scale * 100)` in exact arithmetic, for the scale `num / 32768` (R76). -/
def exactScaled (num raw : Int) : Int := Int.tdiv (raw * num * 100) 32768

/-- The facade's result for one axis: the exact product up to its last unit, which the spec does not state (R76, N17).
Log entry 12. -/
def scaledSample (num raw : Int) : Int := exactScaled num raw + ((Config.scaleSlack num raw).val : Int) - 1

end Sys2Proof.Machine
end

