-- ==== Sys2Proof/Tests/Slice0.lean ====
section
/-! SUPPORT. Tests of the model against the spec's own vectors (95_test_vectors.md), the smoke test of WellFormed, and for
every statement with hypotheses a state and operands that meet them all. -/

namespace Sys2Proof.Tests

open Sys2Proof.Machine

/-! ## Helpers -/

/-- After INIT, nothing in flight (R158 `Ready`). -/
def ready : State := { State.reset with initd := true, ackEn := true }

/-- The host's next input offers `w`. -/
def offering (s : State) (w : Word) : State := { s with host := [{ rst := false, cmd := some w }] }

/-- The host asserts `rst` in the next step and offers an INIT beside it. -/
def resetting (s : State) : State := { s with host := [{ rst := true, cmd := some 0x01000000#32 }] }

/-- Every awaited flag as its wait wants it; `rx_data` is 0xD4 (V20). -/
def goodFlags : FlagSample := FlagSample.ofPorts 0b001111110#9 0xD4#8

/-- No awaited flag as its wait wants it. -/
def badFlags : FlagSample := FlagSample.ofPorts 0b010000001#9 0xD4#8

/-- A transaction to register 0x20 of device 0x2A, payload 0x0F, in state `p` with `n` polls left (V20, V40). -/
def polling (p : Pc) (n : Word) (f : FlagSample) : State :=
  { ready with pc := p, cnt := n, dev := 0x2A#7, reg := 0x20#8, dat := 0x0F#8, env := .oracle [f] }

def nextOf (o : Host.Outcome State Fault Refusal) : Option State :=
  match o with
  | .next t => some t
  | .fault _ => none
  | .refused _ => none

/-- What a test looks at after one step: the sequencer, the action list, the response and the diagnostic. -/
def seen (s : State) : Option (Pc × List Action × Option Response × Option Diag) :=
  (nextOf (step s)).map fun t => (t.pc, t.out.actions, t.out.rsp, t.out.diag)

/-- `q` holds of the state after `k` steps. -/
def holdsAfter (k : Nat) (s : State) (q : State → Bool) : Bool :=
  match Host.Core.run core k s with
  | .next t => q t
  | .fault _ => true
  | .refused _ => true

theorem holdsAfter_spec {k : Nat} {s : State} {q : State → Bool} (h : holdsAfter k s q = true) (u : State)
    (hu : Host.Core.run core k s = .next u) : q u = true := by
  simpa [holdsAfter, hu] using h

theorem busyFor_of {k : Nat} {s : State} (h : ∀ j, j < k → holdsAfter j s (fun u => u.pc != .idle) = true) :
    s.busyFor k := by
  intro j hj u hu
  simpa using holdsAfter_spec (h j hj) u hu

/-! ## Words -/

theorem test_wellFormed_refuses_addr : (AsmLine.wrb 128 0 0).addrInRange = false ∧ (AsmLine.rdb 128 0).wellFormed = false := by
  decide
theorem test_wellFormed_refuses_reg : (AsmLine.wrb 0 256 0).regInRange = false ∧ (AsmLine.rdb 0 256).wellFormed = false := by
  decide
theorem test_wellFormed_refuses_val : (AsmLine.wrb 0 0 256).valInRange = false ∧ (AsmLine.wrb 0 0 256).wellFormed = false := by
  decide
theorem test_assemble : (AsmLine.wrb 0x2A 0x20 0x0F).assemble = some (.wrb 0x2A#7 0x20#8 0x0F#8) := by decide

/-- INIT's word, field by field: RSV1 000000, OPC 01, the rest 0 (R63, V1). -/
theorem test_decode_init : decode 0b00000001000000000000000000000000#32 = .ok .init := by decide
/-- WRB's word, field by field: OPC 10, ADDR7 0101010, REG8 00100000, VAL8 00001111 (R64, V2). -/
theorem test_decode_wrb : decode 0b00000010001010100010000000001111#32 = .ok (.wrb 0x2A#7 0x20#8 0x0F#8) := by decide
/-- RDB's word, field by field: OPC 11, ADDR7 0101010, REG8 00100000, VAL8 0 (R65, V3). -/
theorem test_decode_rdb : decode 0b00000011001010100010000000000000#32 = .ok (.rdb 0x2A#7 0x20#8) := by decide
/-- V4 to V7. -/
theorem test_decode_bounds :
    decode 0x02000000#32 = .ok (.wrb 0#7 0#8 0#8) ∧ decode 0x027FFFFF#32 = .ok (.wrb 0x7F#7 0xFF#8 0xFF#8) ∧
    decode 0x03000000#32 = .ok (.rdb 0#7 0#8) ∧ decode 0x037FFF00#32 = .ok (.rdb 0x7F#7 0xFF#8) := by decide
/-- V8 to V15, each rejected by its name (R68). -/
theorem test_decode_illegal :
    decode 0x00000000#32 = .error .opcReserved ∧ decode 0xFFFFFFFF#32 = .error .rsv1NotZero ∧
    decode 0x01000001#32 = .error .initOperandNotZero ∧ decode 0x012A0000#32 = .error .initOperandNotZero ∧
    decode 0x032A2001#32 = .error .rdbValueNotZero ∧ decode 0x02800000#32 = .error .rsv0NotZero ∧
    decode 0x06000000#32 = .error .rsv1NotZero ∧ decode 0x00FFFFFF#32 = .error .opcReserved := by decide
/-- The examples of R64 and R65. -/
theorem test_encode : encode (.wrb 0x2A#7 0x20#8 0x0F#8) = 0x022A200F#32 ∧ encode (.rdb 0x2A#7 0x20#8) = 0x032A2000#32 := by
  decide
theorem test_decodeTableWord : decodeTableWord 32 0x022A200F = some (.wrb 0x2A#7 0x20#8 0x0F#8) := by decide
/-- V16 to V19. -/
theorem test_address_byte :
    addressByte 0#7 .write = 0#8 ∧ addressByte 0#7 .read = 1#8 ∧ addressByte 0x2A#7 .write = 0x54#8 ∧
    addressByte 0x2A#7 .read = 0x55#8 ∧ addressByte 0x55#7 .write = 0xAA#8 ∧ addressByte 0x7F#7 .read = 0xFF#8 := by
  decide
/-- R20's table, the two ends and the idle state. -/
theorem test_pc_bits : Pc.idle.bits = 0b00000#5 ∧ Pc.w4.bits = 0b10100#5 ∧ Pc.r0.bits = 0b11000#5 ∧ Pc.r7.bits = 0b11111#5 := by
  decide
/-- R40: `flags[8:0]` puts `busy` at bit 0 and `af` at bit 8. -/
theorem test_flags_port : goodFlags.flagsPort = 0b001111110#9 ∧ badFlags.busy = true ∧ badFlags.stopf = true := by decide
/-- R42: the strobes of the exit of `R5`. -/
theorem test_act_port : ({ actions := [.ackDisable, .clearAddr, .stop], rsp := none, diag := none } : Outputs).actPort =
    0b0000101010#10 := by decide

/-! ## Single steps -/

/-- V50. -/
theorem test_init : seen (offering State.reset 0x01000000#32) =
    some (.idle, [.configure], some { data := 0#32, status := .ok, phase := 0#3 }, none) := by decide
/-- The first command after reset, placed by withFetchWord (V1, V50). -/
theorem test_withFetchWord :
    (nextOf (step (State.reset.withFetchWord 32 0x01000000))).map (fun t => (t.initd, t.ackEn)) = some (true, true) := by
  decide
/-- V51, V52: the second INIT is refused, and `ACK_EN` keeps its value. -/
theorem test_init_repeated :
    seen (offering { ready with ackEn := false } 0x01000000#32) =
      some (.idle, [], some { data := 0#32, status := .refused, phase := 0#3 }, none) ∧
    (nextOf (step (offering { ready with ackEn := false } 0x01000000#32))).map State.ackEn = some false := by decide

/-- V20, step by step; V53 before INIT. -/
theorem test_rdb_steps :
    seen (offering ready 0x032A2000#32) = some (.r0, [], none, none) ∧
    seen (polling .r0 1#32 goodFlags) = some (.r1, [.start], none, none) ∧
    seen (polling .r1 1#32 goodFlags) = some (.r2, [.sendAddr 0x54#8], none, none) ∧
    seen (polling .r2 1#32 goodFlags) = some (.r3, [.sendData 0x20#8], none, none) ∧
    seen (polling .r3 1#32 goodFlags) = some (.r4, [.start], none, none) ∧
    seen (polling .r4 1#32 goodFlags) = some (.r5, [.sendAddr 0x55#8], none, none) ∧
    seen (polling .r5 1#32 goodFlags) = some (.r6, [.ackDisable, .clearAddr, .stop], none, none) ∧
    seen (polling .r6 1#32 goodFlags) = some (.r7, [.readData], none, none) ∧
    (nextOf (step (polling .r6 1#32 goodFlags))).map State.res = some 0xD4#8 ∧
    seen { polling .r7 1#32 goodFlags with res := 0xD4#8 } =
      some (.idle, [.ackEnable, .clearAf], some { data := 0x000000D4#32, status := .ok, phase := 0#3 }, none) ∧
    seen (offering State.reset 0x032A2000#32) =
      some (.idle, [], some { data := 0#32, status := .refused, phase := 0#3 }, none) := by
  refine ⟨?_, ?_, ?_, ?_, ?_, ?_, ?_, ?_, ?_, ?_, ?_⟩ <;> decide
/-- V25 rows 6 and 7, V30: a poll less, then the timeout; `ACK_EN` stays 0. -/
theorem test_rdb_timeout :
    (nextOf (step (polling .r6 2#32 badFlags))).map (fun t => (t.pc, t.cnt)) = some (.r6, 1#32) ∧
    seen (polling .r6 1#32 badFlags) =
      some (.idle, [], some { data := 0#32, status := .timeout, phase := 6#3 }, some { dir := .read, phase := 6#3 }) ∧
    seen (polling .r7 1#32 badFlags) =
      some (.idle, [], some { data := 0#32, status := .timeout, phase := 7#3 }, some { dir := .read, phase := 7#3 }) ∧
    (nextOf (step { polling .r6 1#32 badFlags with ackEn := false })).map State.ackEn = some false := by
  refine ⟨?_, ?_, ?_, ?_⟩ <;> decide
/-- V40, step by step; V54 before INIT. -/
theorem test_wrb_steps :
    seen (offering ready 0x022A200F#32) = some (.w0, [], none, none) ∧
    seen (polling .w0 1#32 goodFlags) = some (.w1, [.start], none, none) ∧
    seen (polling .w1 1#32 goodFlags) = some (.w2, [.sendAddr 0x54#8], none, none) ∧
    seen (polling .w2 1#32 goodFlags) = some (.w3, [.sendData 0x20#8], none, none) ∧
    seen (polling .w3 1#32 goodFlags) = some (.w4, [.sendData 0x0F#8], none, none) ∧
    seen (polling .w4 1#32 goodFlags) =
      some (.idle, [.stop], some { data := 0#32, status := .ok, phase := 0#3 }, none) ∧
    seen (offering State.reset 0x022A200F#32) =
      some (.idle, [], some { data := 0#32, status := .refused, phase := 0#3 }, none) := by
  refine ⟨?_, ?_, ?_, ?_, ?_, ?_, ?_⟩ <;> decide
/-- V42: no STOP on the timeout of phase 4; V57: a word offered while busy is ignored. -/
theorem test_wrb_timeout :
    seen (polling .w4 1#32 badFlags) =
      some (.idle, [], some { data := 0#32, status := .timeout, phase := 4#3 }, some { dir := .write, phase := 4#3 }) ∧
    seen (offering (polling .w2 1#32 goodFlags) 0x01000000#32) = some (.w3, [.sendData 0x20#8], none, none) := by
  refine ⟨?_, ?_⟩ <;> decide
/-- V61, V62, V63. -/
theorem test_reset_beats_everything :
    seen (resetting (polling .r6 1#32 goodFlags)) = some (.idle, [], none, none) ∧
    seen (resetting (polling .w4 1#32 goodFlags)) = some (.idle, [], none, none) ∧
    seen (resetting ready) = some (.idle, [], none, none) ∧
    (nextOf (step (resetting ready))).map State.initd = some false := by
  refine ⟨?_, ?_, ?_, ?_⟩ <;> decide

/-- ENV-ECHO with one device, 0x2A (P1). -/
def echo : EchoEnv := EchoEnv.initial [0x2A#7] [] [] none 0 0#8

/-- ENV-ECHO once a write has come to the value byte (P1). -/
def echoAtValue : EchoEnv := { echo with sel := some (0x2A#7, .write), nbytes := 1, ptr := [(0x2A, 0x20#8)], flags := goodFlags }

/-- R52: ENV-ECHO starts with its flags 0 and with `mem0` (P5: x high, and z high). -/
theorem test_echo_initial :
    (EchoEnv.initial [0x2A#7] [((0x2A#7, 0x15#8), 0xC0#8), ((0x2A#7, 0x11#8), 0x40#8)] [] none 0 7#8).readCell 0x2A#7 0x11#8 = 0x40#8 ∧
    (EchoEnv.initial [0x2A#7] [((0x2A#7, 0x15#8), 0xC0#8), ((0x2A#7, 0x11#8), 0x40#8)] [] none 0 7#8).readCell 0x2A#7 0x15#8 = 0xC0#8 ∧
    (EchoEnv.initial [0x2A#7] [] [] none 0 7#8).flags.flagsPort = 0#9 := by decide
/-- R58: the first transaction after reset is transaction 1. -/
theorem test_script_initial (rows : List ScriptRow) :
    (Env.script (ScriptEnv.initial rows)).onTransaction = .script { rows := rows, txn := 1, polls := 0 } := rfl
/-- R56: the value byte lands at the pointer (P1). -/
theorem test_echo_store :
    (nextOf (step { polling .w3 1#32 goodFlags with env := .echo echoAtValue })).map
      (fun t => t.env.readCell 0x2A#7 0x20#8) = some (some 0x0F#8) := by decide
/-- R55: an absent device leaves `af` and no answer (P2). -/
theorem test_echo_absent : (echo.onSendAddr 0xAA#8).flags.af = true ∧ (echo.onSendAddr 0xAA#8).flags.evTxsel = false := by
  decide

/-- ENV-SCRIPT in its first transaction, phase 1 true from the second poll on, never in phase 2 (V24, V41). -/
def script : ScriptEnv :=
  { rows := [{ firstTrue := #v[some 1, some 2, none, some 1, some 1, some 1, some 1, some 1], byte := 0xD4#8 }], txn := 1, polls := 0 }

/-- R58: false at poll 1, true at poll 2. -/
theorem test_script : script.answers { firstTrue := #v[some 1, some 2, none, some 1, some 1, some 1, some 1, some 1], byte := 0#8 } .w1 = false ∧
    { script with polls := 1 }.answers { firstTrue := #v[some 1, some 2, none, some 1, some 1, some 1, some 1, some 1], byte := 0#8 } .w1 = true := by
  decide
/-- S4: low byte first, signed. -/
theorem test_raw_sample : rawSample 0x00#8 0x40#8 = 16384 ∧ rawSample 0x00#8 0xC0#8 = -16384 := by decide
/-- S4: 100 * 16384 * 245 / 32768 = 12250, and the z value. -/
theorem test_scaled_sample : exactScaled 245 16384 = 12250 ∧ exactScaled 245 (-16384) = -12250 := by decide

/-! ## Witnesses: for each statement a state and operands that meet its hypotheses -/

theorem witness_EncodeDecodeRoundTrip :
    decode 0x01000000#32 = .ok .init ∧ decode 0x027FFFFF#32 = .ok (.wrb 0x7F#7 0xFF#8 0xFF#8) ∧
    decode 0x03000000#32 = .ok (.rdb 0#7 0#8) := by decide

theorem witness_AssembledLineHasItsWord :
    (127 < 128 ∧ 255 < 256 ∧ 255 < 256) ∧ (128 ≤ 128 ∨ 256 ≤ 255 ∨ 256 ≤ 255) ∧ (128 ≤ 127 ∨ 256 ≤ 256 ∨ 256 ≤ 255) ∧
    (128 ≤ 127 ∨ 256 ≤ 255 ∨ 256 ≤ 256) := by decide

theorem witness_IllegalWordsAreRefused :
    (offering State.reset 0#32).Accepts 0#32 ∧ decode 0#32 = .error .opcReserved := by decide

theorem witness_StepRunsDecodedInstruction :
    (offering State.reset 0x01000000#32).Accepts 0x01000000#32 ∧ decode 0x01000000#32 = .ok .init ∧
    (offering ready 0x032A2000#32).Accepts 0x032A2000#32 ∧ decode 0x032A2000#32 = .ok (.rdb 0x2A#7 0x20#8) := by decide

theorem witness_CommandAcceptedOnlyWhenReady :
    ((offering ready 0x032A2000#32).cmdReady = true ∧ (offering ready 0x032A2000#32).hostNow.cmd = some 0x032A2000#32 ∧
      decode 0x032A2000#32 = .ok (.rdb 0x2A#7 0x20#8)) ∧
    ((offering ready 0#32).cmdReady = true ∧ (offering ready 0#32).hostNow.cmd = some 0#32 ∧
      decode 0#32 = .error .opcReserved) ∧
    ((offering (polling .w2 1#32 goodFlags) 0#32).host = { rst := false, cmd := some 0#32 } :: [] ∧
      (offering (polling .w2 1#32 goodFlags) 0#32).cmdReady = false) ∧
    ((resetting ready).host = { rst := true, cmd := some 0x01000000#32 } :: [] ∧ (resetting ready).cmdReady = false) := by
  decide

theorem witness_ResetStepClearsControl : (resetting (polling .r6 1#32 goodFlags)).hostNow.rst = true := by decide

theorem witness_ResetAbortsWithoutCleanUp :
    (resetting (polling .r6 1#32 goodFlags)).hostNow.rst = true ∧ (resetting (polling .r6 1#32 goodFlags)).pc ≠ .idle ∧
    (resetting { polling .w3 1#32 goodFlags with env := .echo echoAtValue }).env = .echo echoAtValue := by decide

theorem witness_OnlyResetCancels :
    ∃ t, step (resetting (polling .r6 1#32 goodFlags)) = .next t ∧ (resetting (polling .r6 1#32 goodFlags)).pc ≠ .idle ∧
      t.pc = .idle ∧ t.out.rsp = none := ⟨_, rfl, by decide, rfl, rfl⟩

theorem witness_IdleStepChangesNothing :
    State.reset.hostNow.rst = false ∧ State.reset.pc = .idle ∧ State.reset.hostNow.cmd = none := by decide

theorem witness_commands :
    (State.reset.pc = .idle ∧ State.reset.initd = false) ∧ (ready.pc = .idle ∧ ready.initd = true) := by decide

theorem witness_RefusedWordsHaveNoEffect :
    (offering ready 0x01000000#32).Accepts 0x01000000#32 ∧ decode 0x01000000#32 = .ok .init ∧
    (offering State.reset 0x022A200F#32).Accepts 0x022A200F#32 ∧ decode 0x022A200F#32 = .ok (.wrb 0x2A#7 0x20#8 0x0F#8) ∧
    (offering State.reset 0x032A2000#32).Accepts 0x032A2000#32 ∧ decode 0x032A2000#32 = .ok (.rdb 0x2A#7 0x20#8) := by
  decide

theorem witness_frames :
    (∃ t, exec .init State.reset = .next t ∧ t.initd = true) ∧
    (∃ t, exec (.rdb 0x2A#7 0x20#8) { ready with env := .echo echo } = .next t ∧ t.pc = .r0) ∧
    (∃ t, exec (.wrb 0x2A#7 0x20#8 0x0F#8) { ready with env := .echo echo } = .next t ∧ t.pc = .w0) :=
  ⟨⟨_, rfl, rfl⟩, ⟨_, rfl, rfl⟩, ⟨_, rfl, rfl⟩⟩

/-- For every wait of a read a successful poll and a last failing one (ReadSendsRegisterAddress, ReadTurnsTheBusAround,
ReadDisablesAcknowledge, ReadCapturesByte, ReadReturnsByte). -/
theorem witness_read_waits :
    ((polling .r0 1#32 goodFlags).PollsIn .r0 ∧ (polling .r0 1#32 goodFlags).sample.busy = false) ∧
    ((polling .r0 1#32 badFlags).PollsIn .r0 ∧ (polling .r0 1#32 badFlags).sample.busy = true ∧ (polling .r0 1#32 badFlags).cnt = 1#32) ∧
    ((polling .r1 1#32 goodFlags).PollsIn .r1 ∧ (polling .r1 1#32 goodFlags).sample.evMs = true) ∧
    ((polling .r1 1#32 badFlags).PollsIn .r1 ∧ (polling .r1 1#32 badFlags).sample.evMs = false ∧ (polling .r1 1#32 badFlags).cnt = 1#32) ∧
    ((polling .r2 1#32 goodFlags).PollsIn .r2 ∧ (polling .r2 1#32 goodFlags).sample.evTxsel = true) ∧
    ((polling .r2 1#32 badFlags).PollsIn .r2 ∧ (polling .r2 1#32 badFlags).sample.evTxsel = false ∧ (polling .r2 1#32 badFlags).cnt = 1#32) ∧
    ((polling .r3 1#32 goodFlags).PollsIn .r3 ∧ (polling .r3 1#32 goodFlags).sample.btf = true) ∧
    ((polling .r3 1#32 badFlags).PollsIn .r3 ∧ (polling .r3 1#32 badFlags).sample.btf = false ∧ (polling .r3 1#32 badFlags).cnt = 1#32) ∧
    ((polling .r4 1#32 goodFlags).PollsIn .r4 ∧ (polling .r4 1#32 goodFlags).sample.evMs = true) ∧
    ((polling .r4 1#32 badFlags).PollsIn .r4 ∧ (polling .r4 1#32 badFlags).sample.evMs = false ∧ (polling .r4 1#32 badFlags).cnt = 1#32) ∧
    ((polling .r5 1#32 goodFlags).PollsIn .r5 ∧ (polling .r5 1#32 goodFlags).sample.addr = true) ∧
    ((polling .r5 1#32 badFlags).PollsIn .r5 ∧ (polling .r5 1#32 badFlags).sample.addr = false ∧ (polling .r5 1#32 badFlags).cnt = 1#32) ∧
    ((polling .r6 1#32 goodFlags).PollsIn .r6 ∧ (polling .r6 1#32 goodFlags).sample.rxne = true) ∧
    ((polling .r6 1#32 badFlags).PollsIn .r6 ∧ (polling .r6 1#32 badFlags).sample.rxne = false ∧ (polling .r6 1#32 badFlags).cnt = 1#32) ∧
    ((polling .r7 1#32 goodFlags).PollsIn .r7 ∧ (polling .r7 1#32 goodFlags).sample.stopf = false) ∧
    ((polling .r7 1#32 badFlags).PollsIn .r7 ∧ (polling .r7 1#32 badFlags).sample.stopf = true ∧ (polling .r7 1#32 badFlags).cnt = 1#32) := by
  decide

/-- For every wait of a write a successful poll and a last failing one (WriteSendsAddressAndValue, WriteStopsAndAnswers). -/
theorem witness_write_waits :
    ((polling .w0 1#32 goodFlags).PollsIn .w0 ∧ (polling .w0 1#32 goodFlags).sample.busy = false) ∧
    ((polling .w0 1#32 badFlags).PollsIn .w0 ∧ (polling .w0 1#32 badFlags).sample.busy = true ∧ (polling .w0 1#32 badFlags).cnt = 1#32) ∧
    ((polling .w1 1#32 goodFlags).PollsIn .w1 ∧ (polling .w1 1#32 goodFlags).sample.evMs = true) ∧
    ((polling .w1 1#32 badFlags).PollsIn .w1 ∧ (polling .w1 1#32 badFlags).sample.evMs = false ∧ (polling .w1 1#32 badFlags).cnt = 1#32) ∧
    ((polling .w2 1#32 goodFlags).PollsIn .w2 ∧ (polling .w2 1#32 goodFlags).sample.evTxsel = true) ∧
    ((polling .w2 1#32 badFlags).PollsIn .w2 ∧ (polling .w2 1#32 badFlags).sample.evTxsel = false ∧ (polling .w2 1#32 badFlags).cnt = 1#32) ∧
    ((polling .w3 1#32 goodFlags).PollsIn .w3 ∧ (polling .w3 1#32 goodFlags).sample.evTxing = true) ∧
    ((polling .w3 1#32 badFlags).PollsIn .w3 ∧ (polling .w3 1#32 badFlags).sample.evTxing = false ∧ (polling .w3 1#32 badFlags).cnt = 1#32) ∧
    ((polling .w4 1#32 goodFlags).PollsIn .w4 ∧ (polling .w4 1#32 goodFlags).sample.btf = true) ∧
    ((polling .w4 1#32 badFlags).PollsIn .w4 ∧ (polling .w4 1#32 badFlags).sample.btf = false ∧ (polling .w4 1#32 badFlags).cnt = 1#32) := by
  decide

/-- TimeoutEndsTheCommand, FailingPollSpendsTheBudget: one poll left, and two. -/
theorem witness_failing_polls :
    ((polling .r3 1#32 badFlags).hostNow.rst = false ∧ (polling .r3 1#32 badFlags).pc ≠ .idle ∧
      waitCond (polling .r3 1#32 badFlags).pc (polling .r3 1#32 badFlags).sample = false ∧ (polling .r3 1#32 badFlags).cnt = 1#32) ∧
    ((polling .r3 2#32 badFlags).hostNow.rst = false ∧ (polling .r3 2#32 badFlags).pc ≠ .idle ∧
      waitCond (polling .r3 2#32 badFlags).pc (polling .r3 2#32 badFlags).sample = false ∧ (polling .r3 2#32 badFlags).cnt ≠ 1#32) := by
  decide

/-- A state of a read that R32 allows, whatever `N_TIMEOUT` is. -/
theorem witness_Reachable : (polling .r3 1#32 badFlags).Reachable := by
  constructor <;> simp [polling, ready]
  exact Config.nTimeout_pos

/-- The states that a step leaves, for the statements about any step: a command's, a successful poll's, a last failing
poll's, a failing poll's. -/
theorem witness_steps :
    (∃ t, step (offering State.reset 0x01000000#32) = .next t ∧ (offering State.reset 0x01000000#32).hostNow.rst = false ∧
      (offering State.reset 0x01000000#32).pc = .idle ∧ t.out.rsp = some { data := 0#32, status := .ok, phase := 0#3 }) ∧
    (∃ t, step (polling .r5 1#32 goodFlags) = .next t ∧ (polling .r5 1#32 goodFlags).hostNow.rst = false ∧
      (polling .r5 1#32 goodFlags).pc ≠ .idle ∧ t.pc = .r6) ∧
    (∃ t, step (polling .r5 1#32 badFlags) = .next t ∧ t.pc = .idle ∧
      t.out.rsp = some { data := 0#32, status := .timeout, phase := 5#3 }) ∧
    (∃ t, step (polling .r5 2#32 badFlags) = .next t ∧ t.pc = .r5 ∧ t.cnt = 1#32) :=
  ⟨⟨_, rfl, rfl, rfl, rfl⟩, ⟨_, rfl, rfl, by decide, rfl⟩, ⟨_, rfl, rfl, rfl⟩, ⟨_, rfl, rfl, rfl⟩⟩

/-- SequencerTransitions and LatchesWrittenOnlyByTheirRules, the clauses about accepted words. -/
theorem witness_accepted_words :
    (offering ready 0x037FFF00#32).Accepts 0x037FFF00#32 ∧ decode 0x037FFF00#32 = .ok (.rdb 0x7F#7 0xFF#8) ∧
    (offering ready 0x027FFFFF#32).Accepts 0x027FFFFF#32 ∧ decode 0x027FFFFF#32 = .ok (.wrb 0x7F#7 0xFF#8 0xFF#8) ∧
    (offering ready 0x01000000#32).Accepts 0x01000000#32 ∧ decode 0x01000000#32 = .ok .init ∧
    (offering ready 0x06000000#32).Accepts 0x06000000#32 ∧ decode 0x06000000#32 = .error .rsv1NotZero := by decide

/-- A read in `R6` with acknowledge generation off, about to time out. -/
def lateRead : State := { polling .r6 1#32 badFlags with ackEn := false }

theorem witness_AcknowledgeStaysOff :
    (∃ t, step lateRead = .next t ∧ lateRead.Reachable ∧ lateRead.hostNow.rst = false ∧ (lateRead.pc = .r6 ∨ lateRead.pc = .r7) ∧
      waitCond lateRead.pc lateRead.sample = false ∧ lateRead.cnt = 1#32) ∧
    (∃ t, step { polling .r7 1#32 goodFlags with ackEn := false } = .next t ∧ t.ackEn = true) ∧
    (∃ t, step (resetting lateRead) = .next t ∧ (resetting lateRead).initd = true ∧ (resetting lateRead).ackEn = false ∧
      t.initd = false) := by
  refine ⟨⟨_, rfl, ?_, rfl, by decide, by decide, rfl⟩, ⟨_, rfl, rfl⟩, ⟨_, rfl, rfl, rfl, rfl⟩⟩
  constructor <;> simp [lateRead, polling, ready]
  exact Config.nTimeout_pos

/-- Two idle states with different latches. -/
theorem witness_DeadLatchesAreUnobservable :
    ready.SameButDeadLatches { ready with dev := 0x7F#7, reg := 1#8, dat := 2#8, res := 3#8, cnt := 4#32 } ∧
    ∃ t, step ready = .next t := by
  refine ⟨?_, _, rfl⟩
  constructor <;> simp [ready, State.reset]

/-- Two samples that agree on the awaited flag only. -/
theorem witness_FlagMonitorLooksAtOneFlag :
    (polling .r5 1#32 goodFlags).hostNow.rst = false ∧ (polling .r5 1#32 goodFlags).pc ≠ .idle ∧
    waitCond .r5 goodFlags = waitCond .r5 (badFlags.withCond .r5 true) ∧ goodFlags ≠ badFlags.withCond .r5 true ∧
    waitCond .r6 goodFlags = waitCond .r6 (badFlags.withCond .r6 true) ∧
    goodFlags.rxData = (badFlags.withCond .r6 true).rxData := by decide

/-- ReadSendsRegisterAddress, the clause from the acceptance on; ReadCapturesByte, the clause about `rx_data`. -/
theorem witness_read_clauses :
    (State.Accepts { offering ready (encode (.rdb 0x2A#7 0x20#8)) with env := .oracle [goodFlags] } (encode (.rdb 0x2A#7 0x20#8)) ∧
      ready.initd = true ∧ goodFlags.busy = false) ∧
    ((polling .r6 1#32 badFlags).hostNow.rst = false ∧ (polling .r6 1#32 badFlags).pc ≠ .idle ∧ badFlags.rxne = false) := by
  decide

theorem witness_ResponseCodes :
    ∃ t, step (polling .r5 1#32 badFlags) = .next t ∧
      t.out.rsp = some { data := 0#32, status := .timeout, phase := 5#3 } := ⟨_, rfl, rfl⟩

theorem witness_StepKeepsReachable : State.reset.Reachable ∧ ∃ t, step (offering State.reset 0x01000000#32) = .next t := by
  refine ⟨?_, _, rfl⟩
  constructor <;> simp [State.reset]

/-- ENV-ECHO with a byte in a register. -/
def echoFull : EchoEnv := { echoAtValue with mem := [(0x2A * 256 + 0x21, 7#8)] }

theorem witness_StepKeepsMemoryCanonical :
    (Env.echo echoFull).wf ∧ ∃ t, step { polling .w3 1#32 goodFlags with env := .echo echoFull } = .next t :=
  ⟨by show Memory.wf echoFull.mem ∧ Memory.wf echoFull.ptr; decide, _, rfl⟩

theorem witness_DeviceRegistersChangeOnlyByStores :
    (∃ t, step { polling .w3 1#32 goodFlags with env := .echo echoFull } = .next t) ∧ echoFull.wf ∧
    State.PollsIn { polling .w3 1#32 goodFlags with env := .echo echoFull } .w3 ∧
    waitCond .w3 (State.sample { polling .w3 1#32 goodFlags with env := .echo echoFull }) = true ∧
    echoFull.storeTarget = some (0x2A#7, 0x20#8) ∧ echoFull.storeTarget ≠ some (0x2A#7, 0x21#8) :=
  ⟨⟨_, rfl⟩, by decide, by decide, by decide, by decide, by decide⟩

/-- The host offers a WRB, waits, waits `m` steps more, and offers an RDB of the same register. -/
def roundTrip (m : Nat) : State :=
  { ready with
    env := .echo echo
    host := { rst := false, cmd := some (encode (.wrb 0x2A#7 0x20#8 0x0F#8)) } :: (List.replicate (5 + m) HostInput.quiet ++
      [{ rst := false, cmd := some (encode (.rdb 0x2A#7 0x20#8)) }]) }

/-- EchoWriteStoresItsByte and RoundTripLaw: a read at once, and one after two idle steps. -/
theorem witness_RoundTripLaw :
    ((roundTrip 0).env = .echo echo ∧ echo.wf ∧ echo.BusFree ∧ 0x2A#7 ∈ echo.present ∧
      (roundTrip 0).Accepts (encode (.wrb 0x2A#7 0x20#8 0x0F#8)) ∧ (roundTrip 0).initd = true ∧ (roundTrip 0).noReset 15 ∧
      (roundTrip 0).host[6]? = some { rst := false, cmd := some (encode (.rdb 0x2A#7 0x20#8)) }) ∧
    ((roundTrip 2).env = .echo echo ∧ (roundTrip 2).Accepts (encode (.wrb 0x2A#7 0x20#8 0x0F#8)) ∧
      (roundTrip 2).initd = true ∧ (roundTrip 2).noReset (15 + 2) ∧
      (∀ i, i < 2 → ∀ h : HostInput, (roundTrip 2).host[6 + i]? = some h → h.cmd = none) ∧
      (roundTrip 2).host[6 + 2]? = some { rst := false, cmd := some (encode (.rdb 0x2A#7 0x20#8)) }) := by
  unfold State.noReset
  refine ⟨by decide, by decide, by decide, by decide, by decide, fun i hi h hh => ?_, by decide⟩
  rcases (by omega : i = 0 ∨ i = 1) with rfl | rfl <;> exact Option.some.inj hh ▸ rfl

/-- The host offers an RDB. -/
def reading (dev : DevAddr) : State := { offering ready (encode (.rdb dev 0x20#8)) with env := .echo echo }
/-- The host offers a WRB. -/
def writing (dev : DevAddr) : State := { offering ready (encode (.wrb dev 0x20#8 0x0F#8)) with env := .echo echo }

/-- A host that offers one word asserts no reset, however far one looks. -/
theorem offering_noReset (s : State) (w : Word) (k : Nat) : (offering s w).noReset k := by
  intro i hi
  have := List.mem_of_mem_take hi
  simp [offering] at this
  simp [this]

theorem witness_EchoReadReturnsTheRegister :
    (reading 0x2A#7).env = .echo echo ∧ echo.wf ∧ echo.BusFree ∧ 0x2A#7 ∈ echo.present ∧
    (reading 0x2A#7).Accepts (encode (.rdb 0x2A#7 0x20#8)) ∧ (reading 0x2A#7).initd = true ∧ (reading 0x2A#7).noReset 9 := by
  unfold State.noReset
  decide

/-- EchoAbsentDeviceTimesOut: device 0x55 (P2), both commands. -/
theorem witness_EchoAbsentDeviceTimesOut :
    ((reading 0x55#7).env = .echo echo ∧ echo.BusFree ∧ 0x55#7 ∉ echo.present ∧ (reading 0x55#7).initd = true ∧
      (reading 0x55#7).noReset (3 + Config.nTimeout.toNat) ∧ (reading 0x55#7).Accepts (encode (.rdb 0x55#7 0x20#8))) ∧
    ((writing 0x55#7).env = .echo echo ∧ (writing 0x55#7).initd = true ∧
      (writing 0x55#7).noReset (3 + Config.nTimeout.toNat) ∧ (writing 0x55#7).Accepts (encode (.wrb 0x55#7 0x20#8 0x0F#8))) := by
  refine ⟨⟨by decide, by decide, by decide, by decide, ?_, by decide⟩, by decide, by decide, ?_, by decide⟩
  · exact offering_noReset ready (encode (.rdb 0x55#7 0x20#8)) _
  · exact offering_noReset ready (encode (.wrb 0x55#7 0x20#8 0x0F#8)) _

theorem witness_CommandsAnswerWithinTheirBound :
    ((reading 0x2A#7).Accepts (encode (.rdb 0x2A#7 0x20#8)) ∧ (reading 0x2A#7).initd = true ∧
      (reading 0x2A#7).noReset (1 + 8 * Config.nTimeout.toNat)) ∧
    ((writing 0x2A#7).Accepts (encode (.wrb 0x2A#7 0x20#8 0x0F#8)) ∧ (writing 0x2A#7).initd = true ∧
      (writing 0x2A#7).noReset (1 + 5 * Config.nTimeout.toNat)) :=
  ⟨⟨by decide, by decide, offering_noReset ready (encode (.rdb 0x2A#7 0x20#8)) _⟩, by decide, by decide,
    offering_noReset ready (encode (.wrb 0x2A#7 0x20#8 0x0F#8)) _⟩

/-- A wait with three polls left and a line of samples to come. -/
def waiting (fs : List FlagSample) : State := { polling .r1 3#32 badFlags with env := .oracle fs }

/-- WaitTakesAtMostItsBudget: three false samples, and a first true one in the third (V34, V35). -/
theorem witness_WaitTakesAtMostItsBudget :
    ((waiting [badFlags, badFlags, badFlags]).pc ≠ .idle ∧ (waiting [badFlags, badFlags, badFlags]).cnt.toNat = 3 ∧
      ∀ k, k < 3 → ∀ u : State, Host.Core.run core k (waiting [badFlags, badFlags, badFlags]) = .next u →
        u.hostNow.rst = false ∧ waitCond .r1 u.sample = false) ∧
    ((waiting [badFlags, badFlags, goodFlags]).cnt.toNat = 3 ∧ 2 + 1 ≤ 3 ∧
      (∀ k, k < 2 → ∀ u : State, Host.Core.run core k (waiting [badFlags, badFlags, goodFlags]) = .next u →
        u.hostNow.rst = false ∧ waitCond .r1 u.sample = false) ∧
      (∀ u : State, Host.Core.run core 2 (waiting [badFlags, badFlags, goodFlags]) = .next u →
        u.hostNow.rst = false ∧ waitCond .r1 u.sample = true)) := by
  have h1 : ∀ k, k < 3 → holdsAfter k (waiting [badFlags, badFlags, badFlags])
      (fun u => !u.hostNow.rst && !waitCond .r1 u.sample) = true := by decide
  have h2 : ∀ k, k < 2 → holdsAfter k (waiting [badFlags, badFlags, goodFlags])
      (fun u => !u.hostNow.rst && !waitCond .r1 u.sample) = true := by decide
  have h3 : holdsAfter 2 (waiting [badFlags, badFlags, goodFlags])
      (fun u => !u.hostNow.rst && waitCond .r1 u.sample) = true := by decide
  refine ⟨⟨by decide, by decide, fun k hk u hu => ?_⟩, by decide, by decide, fun k hk u hu => ?_, fun u hu => ?_⟩
  · simpa using holdsAfter_spec (h1 k hk) u hu
  · simpa using holdsAfter_spec (h2 k hk) u hu
  · simpa using holdsAfter_spec h3 u hu

/-- The row of the script above. -/
def scriptRow : ScriptRow :=
  { firstTrue := #v[some 1, some 2, none, some 1, some 1, some 1, some 1, some 1], byte := 0xD4#8 }

/-- A false poll, a true one, an acceptance and an idle step: one for each clause. -/
theorem witness_ScriptAnswersFromItsPollOn :
    script.rows[script.txn - 1]? = some scriptRow ∧
    (∃ t, step { polling .w1 3#32 badFlags with env := .script script } = .next t ∧ t.pc = .w1) ∧
    (∃ t, step { polling .w1 1#32 badFlags with env := .script { script with polls := 1 } } = .next t ∧ t.pc = .w2) ∧
    (∃ t, step { offering ready 0x032A2000#32 with env := .script script } = .next t ∧ t.pc = .r0) ∧
    (∃ t, step { ready with env := .script script } = .next t ∧ t.pc = .idle) :=
  ⟨by decide, ⟨_, rfl, rfl⟩, ⟨_, rfl, rfl⟩, ⟨_, rfl, rfl⟩, _, rfl, rfl⟩

/-- A transaction from its first wait, with every flag on the first poll. -/
def running (p : Pc) : State := { polling p 3#32 goodFlags with env := .oracle (List.replicate 8 goodFlags) }

/-- A transaction whose bus never gets free, one poll left. -/
def stuckAt (p : Pc) : State := polling p 1#32 badFlags

/-- ReadTrace: a whole read, a read under way, and a timed-out one. -/
theorem witness_ReadTrace :
    ((running .r0).pc = .r0 ∧ (running .r0).noReset 8 ∧ (running .r0).busyFor 8 ∧
      ∃ acts t, runTrace 8 (running .r0) = some (acts, t) ∧ t.pc = .idle) ∧
    ((running .r0).noReset 3 ∧ (running .r0).busyFor 3 ∧
      ∃ acts t, runTrace 3 (running .r0) = some (acts, t) ∧ t.pc = .r3) ∧
    ((stuckAt .r0).noReset 1 ∧ (stuckAt .r0).busyFor 1 ∧
      ∃ acts t, runTrace 1 (stuckAt .r0) = some (acts, t) ∧ t.pc = .idle) := by
  unfold State.noReset
  refine ⟨⟨rfl, by decide, busyFor_of (by decide), _, _, rfl, rfl⟩, ⟨by decide, busyFor_of (by decide), _, _, rfl, rfl⟩,
    by decide, busyFor_of (by decide), _, _, rfl, rfl⟩

/-- WriteTrace: a whole write, a write under way, and a timed-out one. -/
theorem witness_WriteTrace :
    ((running .w0).pc = .w0 ∧ (running .w0).noReset 5 ∧ (running .w0).busyFor 5 ∧
      ∃ acts t, runTrace 5 (running .w0) = some (acts, t) ∧ t.pc = .idle) ∧
    ((running .w0).noReset 4 ∧ (running .w0).busyFor 4 ∧
      ∃ acts t, runTrace 4 (running .w0) = some (acts, t) ∧ t.pc = .w4) ∧
    ((stuckAt .w0).noReset 1 ∧ (stuckAt .w0).busyFor 1 ∧
      ∃ acts t, runTrace 1 (stuckAt .w0) = some (acts, t) ∧ t.pc = .idle) := by
  unfold State.noReset
  refine ⟨⟨rfl, by decide, busyFor_of (by decide), _, _, rfl, rfl⟩, ⟨by decide, busyFor_of (by decide), _, _, rfl, rfl⟩,
    by decide, busyFor_of (by decide), _, _, rfl, rfl⟩

end Sys2Proof.Tests
end

/-! ## The registers after an exit, an accepted command and a poll

One lemma per register for each way a step without `rst` writes registers (40_sequencer_common.md R80 cases
3 and 4), so that the statements of 10_state.md are read off and no exit is unfolded again. -/

namespace Sys2Proof.Machine

/-! ### The sequencer's order (R21) -/

/-- R21: between two waits the direction is kept and the phase counts up by one. -/
theorem Pc.next_dir_ph {p : Pc} (h : p.next ≠ .idle) :
    p.next.dir = p.dir ∧ p.next.ph.toNat = p.ph.toNat + 1 := by
  revert h
  cases p <;> decide

/-- `R6` is entered from `R5` only. -/
theorem Pc.next_eq_r6 {p : Pc} : p.next = .r6 ↔ p = .r5 := by
  cases p <;> decide

/-- `R7` is entered from `R6` only. -/
theorem Pc.next_eq_r7 {p : Pc} : p.next = .r7 ↔ p = .r6 := by
  cases p <;> decide

/-! ### The exit of a wait (R88) -/

/-- The actions of the exit of the current wait, in order (R97 to R104, R109 to R113). -/
def State.exitActions (s : State) : List Action :=
  match s.pc with
  | .idle => []
  | .w0 | .r0 | .r3 => [.start]
  | .w1 | .r1 => [.sendAddr (addressByte s.dev .write)]
  | .w2 | .r2 => [.sendData s.reg]
  | .w3 => [.sendData s.dat]
  | .w4 => [.stop]
  | .r4 => [.sendAddr (addressByte s.dev .read)]
  | .r5 => [.ackDisable, .clearAddr, .stop]
  | .r6 => [.readData]
  | .r7 => [.ackEnable, .clearAf]

/-- The response in the outputs after the exit of the current wait: the exits of `W4` and `R7` answer (R104, R113). -/
def State.exitRsp (s : State) : Option Response :=
  match s.pc with
  | .w4 => some { data := 0#32, status := .ok, phase := 0#3 }
  | .r7 => some { data := resultWord s.res, status := .ok, phase := 0#3 }
  | .idle | .w0 | .w1 | .w2 | .w3 | .r0 | .r1 | .r2 | .r3 | .r4 | .r5 | .r6 => s.out.rsp

section
variable (s : State) (f : FlagSample)

@[simp] theorem State.exitWait_pc : (s.exitWait f).pc = s.pc.next := by
  cases hp : s.pc <;> simp [State.exitWait, hp, Pc.next]

theorem State.exitWait_cnt : (s.exitWait f).cnt = if s.pc.next = .idle then s.cnt else Config.nTimeout := by
  cases hp : s.pc <;> simp [State.exitWait, hp, Pc.next]

@[simp] theorem State.exitWait_dev : (s.exitWait f).dev = s.dev := by
  cases hp : s.pc <;> simp [State.exitWait, hp]

@[simp] theorem State.exitWait_reg : (s.exitWait f).reg = s.reg := by
  cases hp : s.pc <;> simp [State.exitWait, hp]

@[simp] theorem State.exitWait_dat : (s.exitWait f).dat = s.dat := by
  cases hp : s.pc <;> simp [State.exitWait, hp]

theorem State.exitWait_res : (s.exitWait f).res = if s.pc = .r6 then f.rxData else s.res := by
  cases hp : s.pc <;> simp [State.exitWait, hp]

theorem State.exitWait_ackEn :
    (s.exitWait f).ackEn = if s.pc = .r5 then false else if s.pc = .r7 then true else s.ackEn := by
  cases hp : s.pc <;> simp [State.exitWait, hp]

@[simp] theorem State.exitWait_initd : (s.exitWait f).initd = s.initd := by
  cases hp : s.pc <;> simp [State.exitWait, hp]

theorem State.exitWait_out :
    (s.exitWait f).out = { s.out with actions := s.out.actions ++ s.exitActions, rsp := s.exitRsp } := by
  cases hp : s.pc <;> simp [State.exitWait, State.exitActions, State.exitRsp, hp]

@[simp] theorem State.exitWait_host : (s.exitWait f).host = s.host := by
  cases hp : s.pc <;> simp [State.exitWait, hp]

theorem State.exitWait_env :
    (s.exitWait f).env =
      if s.pc.next = .idle then s.exitActions.foldl Env.onAction s.env
      else (s.exitActions.foldl Env.onAction s.env).onEnterWait := by
  cases hp : s.pc <;> simp [State.exitWait, State.exitActions, hp, Pc.next]

@[simp] theorem State.exitWait_draws : (s.exitWait f).draws = s.draws := by
  cases hp : s.pc <;> simp [State.exitWait, hp]

end

/-! ### An accepted command (R90) -/

/-- The state the acceptance of a command leads to where it is not refused (R21). -/
def firstPc : Instr → Pc
  | .init => .idle
  | .wrb _ _ _ => .w0
  | .rdb _ _ => .r0

section
variable (i : Instr) (s : State)

theorem afterCommand_pc (hp : s.pc = .idle) : (afterCommand i s).pc = if s.initd then firstPc i else .idle := by
  cases i <;> cases hi : s.initd <;> simp [afterCommand, firstPc, hi, hp]

theorem afterCommand_cnt (h : (afterCommand i s).pc ≠ s.pc) : (afterCommand i s).cnt = Config.nTimeout := by
  cases i <;> cases hi : s.initd <;> simp [afterCommand, hi] at h ⊢

@[simp] theorem afterCommand_res : (afterCommand i s).res = s.res := by
  cases i <;> cases hi : s.initd <;> simp [afterCommand, hi]

theorem afterCommand_ackEn :
    (afterCommand i s).ackEn = if i = .init ∧ s.initd = false then true else s.ackEn := by
  cases i <;> cases hi : s.initd <;> simp [afterCommand, hi]

theorem afterCommand_initd : (afterCommand i s).initd = (s.initd || decide (i = .init)) := by
  cases i <;> cases hi : s.initd <;> simp [afterCommand, hi]

/-- `DEV` and `REG` are written only where a transaction begins (R14, R15). -/
theorem afterCommand_pc_of_dev_or_reg (h : (afterCommand i s).dev ≠ s.dev ∨ (afterCommand i s).reg ≠ s.reg) :
    (afterCommand i s).pc = .r0 ∨ (afterCommand i s).pc = .w0 := by
  cases i <;> cases hi : s.initd <;> simp [afterCommand, hi] at h ⊢

/-- `DAT` is written only where a write begins (R16). -/
theorem afterCommand_pc_of_dat (h : (afterCommand i s).dat ≠ s.dat) : (afterCommand i s).pc = .w0 := by
  cases i <;> cases hi : s.initd <;> simp [afterCommand, hi] at h ⊢

end

/-! ### A poll (R82, R83) -/

section
variable (s : State)

/-- R21: a poll leads to the next wait, to the idle state, or nowhere. -/
theorem State.poll_pc :
    s.poll.pc = if waitCond s.pc s.sample = true then s.pc.next else if s.cnt = 1#32 then .idle else s.pc := by
  rcases poll_cases s with ⟨hc, h⟩ | ⟨hc, h1, h⟩ | ⟨hc, h1, h⟩
  · simp [h, hc]
  · simp [h, hc, h1]
  · simp [h, hc, h1]

@[simp] theorem State.poll_dev : s.poll.dev = s.dev := by
  rcases poll_cases s with ⟨-, h⟩ | ⟨-, -, h⟩ | ⟨-, -, h⟩ <;> simp [h]

@[simp] theorem State.poll_reg : s.poll.reg = s.reg := by
  rcases poll_cases s with ⟨-, h⟩ | ⟨-, -, h⟩ | ⟨-, -, h⟩ <;> simp [h]

@[simp] theorem State.poll_dat : s.poll.dat = s.dat := by
  rcases poll_cases s with ⟨-, h⟩ | ⟨-, -, h⟩ | ⟨-, -, h⟩ <;> simp [h]

theorem State.poll_res :
    s.poll.res = if s.pc = .r6 ∧ waitCond s.pc s.sample = true then s.sample.rxData else s.res := by
  rcases poll_cases s with ⟨hc, h⟩ | ⟨hc, -, h⟩ | ⟨hc, -, h⟩
  · by_cases hp : s.pc = .r6
    · simp [h, State.exitWait_res, hp, hp ▸ hc]
    · simp [h, State.exitWait_res, hp]
  · simp [h, hc]
  · simp [h, hc]

theorem State.poll_ackEn :
    s.poll.ackEn = if s.pc = .r5 ∧ waitCond s.pc s.sample = true then false
      else if s.pc = .r7 ∧ waitCond s.pc s.sample = true then true else s.ackEn := by
  rcases poll_cases s with ⟨hc, h⟩ | ⟨hc, -, h⟩ | ⟨hc, -, h⟩
  · simp only [h, hc, State.exitWait_ackEn, State.sampled_pc, State.sampled_ackEn, and_true]
    congr
  · simp [h, hc]
  · simp [h, hc]

@[simp] theorem State.poll_initd : s.poll.initd = s.initd := by
  rcases poll_cases s with ⟨-, h⟩ | ⟨-, -, h⟩ | ⟨-, -, h⟩ <;> simp [h]

end

/-! ### A step -/

/-- A step has one outcome: with the model's lemmas `step_reset` to `step_poll` this names the state after it. -/
theorem step_unique {s t u : State} (h : step s = .next t) (hu : step s = .next u) : t = u :=
  Host.Outcome.next.inj (h.symm.trans hu)

/-- R21: what a step from a wait does to `pc`. -/
theorem step_pc_of_wait {s t : State} (h : step s = .next t) (hp : s.pc ≠ .idle) :
    t.pc = .idle ∨ t.pc = s.pc ∨ t.pc = s.pc.next := by
  rcases step_cases h with ⟨-, rfl⟩ | ⟨-, hi, -⟩ | ⟨-, hi, -⟩ | ⟨-, hi, -⟩ | ⟨-, -, rfl⟩
  · exact .inl rfl
  · exact absurd hi hp
  · exact absurd hi hp
  · exact absurd hi hp
  · rw [State.poll_pc]
    split
    · exact .inr (.inr rfl)
    · split
      · exact .inl rfl
      · exact .inr (.inl rfl)

end Sys2Proof.Machine

/-! ## The latches between transactions cannot be observed (R18) -/

namespace Sys2Proof.Machine

namespace State.SameButDeadLatches

variable {s s' : State}

theorem hostNow (h : s.SameButDeadLatches s') : s'.hostNow = s.hostNow := by
  simp only [State.hostNow, h.host]

/-- The environment does not see the latches. -/
theorem sample (h : s.SameButDeadLatches s') : s'.sample = s.sample := by
  simp only [State.sample, State.drawnSample, h.env, h.draws, h.pc]

theorem beginStep (h : s.SameButDeadLatches s') : s.beginStep.SameButDeadLatches s'.beginStep :=
  { h with out := rfl, host := congrArg List.tail h.host }

theorem sampled (h : s.SameButDeadLatches s') : s.sampled.SameButDeadLatches s'.sampled :=
  { h with env := congrArg Env.onSample h.env, draws := congrArg (· + 1) h.draws }

/-- In the idle state no latch is alive, so the other fields decide. -/
theorem of_idle {t t' : State} (hp : t.pc = .idle) (hp' : t'.pc = .idle) (ackEn : t'.ackEn = t.ackEn)
    (initd : t'.initd = t.initd) (out : t'.out = t.out) (host : t'.host = t.host) (env : t'.env = t.env)
    (draws : t'.draws = t.draws) : t.SameButDeadLatches t' :=
  { pc := hp'.trans hp.symm, ackEn, initd, out, host, env, draws
    active := fun h => absurd hp h
    write := fun h => absurd hp h
    captured := fun h => by simp [hp] at h }

/-- R135: what the registers hold after a reset step does not depend on what they held. -/
theorem resetStep (h : s.SameButDeadLatches s') : s.resetStep.SameButDeadLatches s'.resetStep :=
  of_idle rfl rfl rfl rfl rfl h.host (congrArg Env.onReset h.env) (congrArg (· + 1) h.draws)

theorem raiseRefused (h : s.SameButDeadLatches s') (why : RefuseReason) :
    (s.raiseRefused why).SameButDeadLatches (s'.raiseRefused why) :=
  { h with out := by simp [h.out] }

theorem raiseTimeout (h : s.SameButDeadLatches s') : s.raiseTimeout.SameButDeadLatches s'.raiseTimeout :=
  of_idle rfl rfl h.ackEn h.initd (by simp [h.out, h.pc]) h.host h.env h.draws

theorem setCnt (h : s.SameButDeadLatches s') (v : Word) : (s.setCnt v).SameButDeadLatches (s'.setCnt v) :=
  { h with active := fun hp => ⟨rfl, (h.active hp).2⟩ }

theorem initEffect (h : s.SameButDeadLatches s') (hp : s.pc = .idle) :
    s.initEffect.SameButDeadLatches s'.initEffect :=
  of_idle hp (h.pc.trans hp) rfl rfl (by simp [h.out]) h.host (by simp [h.env]) h.draws

/-- R96: a read overwrites `CNT`, `DEV` and `REG`, and reads neither `DAT` nor `RES` before it captures its byte. -/
theorem readEffect (h : s.SameButDeadLatches s') (a : DevAddr) (r : Byte) :
    (s.readEffect a r).SameButDeadLatches (s'.readEffect a r) := by
  constructor <;> simp [h.ackEn, h.initd, h.out, h.host, h.env, h.draws, Pc.dir]

/-- R108: a write overwrites `CNT`, `DEV`, `REG` and `DAT`, and never reads `RES`. -/
theorem writeEffect (h : s.SameButDeadLatches s') (a : DevAddr) (r v : Byte) :
    (s.writeEffect a r v).SameButDeadLatches (s'.writeEffect a r v) := by
  constructor <;> simp [h.ackEn, h.initd, h.out, h.host, h.env, h.draws]

theorem afterCommand (h : s.SameButDeadLatches s') (hp : s.pc = .idle) (i : Instr) :
    (Machine.afterCommand i s).SameButDeadLatches (Machine.afterCommand i s') := by
  cases i <;> simp only [Machine.afterCommand, h.initd] <;> split
  · exact h.raiseRefused _
  · exact h.initEffect hp
  · exact h.writeEffect _ _ _
  · exact h.raiseRefused _
  · exact h.readEffect _ _
  · exact h.raiseRefused _

/-- An exit sends only latches that are alive in its wait. -/
theorem exitActions (h : s.SameButDeadLatches s') : s'.exitActions = s.exitActions := by
  have hact := h.active
  have hdat := h.write
  simp only [State.exitActions, h.pc]
  cases hp : s.pc <;> simp [hp, Pc.dir] at hact hdat ⊢ <;> simp [hact, hdat]

/-- An exit answers with `RES` only in `R7`, where it is alive. -/
theorem exitRsp (h : s.SameButDeadLatches s') : s'.exitRsp = s.exitRsp := by
  have hres := h.captured
  simp only [State.exitRsp, h.pc, h.out]
  cases hp : s.pc <;> simp [hp] at hres ⊢
  simp [hres]

/-- What is alive after an exit was alive before it, or is written by it. -/
theorem exitWait (h : s.SameButDeadLatches s') (hp : s.pc ≠ .idle) (f : FlagSample) :
    (s.exitWait f).SameButDeadLatches (s'.exitWait f) := by
  obtain ⟨hcnt, hdev, hreg⟩ := h.active hp
  constructor
  case pc => simp [h.pc]
  case ackEn => simp [State.exitWait_ackEn, h.pc, h.ackEn]
  case initd => simp [h.initd]
  case out => simp [State.exitWait_out, h.out, h.exitActions, h.exitRsp]
  case host => simp [h.host]
  case env => simp [State.exitWait_env, h.pc, h.env, h.exitActions]
  case draws => simp [h.draws]
  case active => simp [State.exitWait_cnt, h.pc, hcnt, hdev, hreg]
  case write =>
    intro hn hd
    rw [State.exitWait_pc] at hn hd
    simpa using h.write hp ((Pc.next_dir_ph hn).1.symm.trans hd)
  case captured =>
    intro hn
    rw [State.exitWait_pc, Pc.next_eq_r7] at hn
    simp [State.exitWait_res, h.pc, hn]

theorem pollFail (h : s.SameButDeadLatches s') (hp : s.pc ≠ .idle) :
    s.pollFail.SameButDeadLatches s'.pollFail := by
  rw [State.pollFail, State.pollFail, (h.active hp).1]
  split
  · exact h.raiseTimeout
  · exact h.setCnt _

theorem poll (h : s.SameButDeadLatches s') (hp : s.pc ≠ .idle) : s.poll.SameButDeadLatches s'.poll := by
  rw [State.poll, State.poll, State.pollOn, State.pollOn, h.sample, h.sampled.pc]
  split
  · exact h.sampled.exitWait hp _
  · exact h.sampled.pollFail hp

/-- R18: two states that differ in dead latches only take the same kind of step, and still differ so after it. -/
theorem step (h : s.SameButDeadLatches s') {t : State} (ht : Machine.step s = .next t) :
    ∃ t', Machine.step s' = .next t' ∧ t.SameButDeadLatches t' := by
  have hin := h.hostNow
  have hpc := h.pc
  rcases step_cases ht with ⟨hr, rfl⟩ | ⟨hr, hp, hc, rfl⟩ | ⟨hr, hp, w, i, hc, hd, rfl⟩ |
    ⟨hr, hp, w, e, hc, hd, rfl⟩ | ⟨hr, hp, rfl⟩ <;> rw [← hin] at hr
  · exact ⟨_, step_reset hr, h.beginStep.resetStep⟩
  · rw [← hin] at hc
    exact ⟨_, step_idle hr (hpc.trans hp) hc, h.beginStep⟩
  · rw [← hin] at hc
    exact ⟨_, step_command hr (hpc.trans hp) hc hd, h.beginStep.afterCommand hp i⟩
  · rw [← hin] at hc
    exact ⟨_, step_illegal hr (hpc.trans hp) hc hd, h.beginStep.raiseRefused _⟩
  · exact ⟨_, step_poll hr (hpc ▸ hp), h.beginStep.poll hp⟩

end State.SameButDeadLatches

/-- Settles O40: every operation of a step keeps the relation, because it reads a latch only where the relation demands it
equal. -/
theorem deadLatchesAreUnobservable : Obligations.DeadLatchesAreUnobservable :=
  fun _ _ _ h ht => h.step ht

end Sys2Proof.Machine

/-! ## The invariant of reachable states (R32) -/

namespace Sys2Proof.Machine

namespace State.Reachable

variable {s : State}

/-- In the idle state the invariant says only that `ACK_EN` is 0 before INIT. -/
theorem of_idle (hp : s.pc = .idle) (h : s.initd = false → s.ackEn = false) : s.Reachable where
  active_initd hn := absurd hp hn
  active_cnt_pos hn := absurd hp hn
  active_cnt_le hn := absurd hp hn
  ack_window hw := by simp [hp] at hw
  uninit hi := ⟨h hi, hp⟩

/-- After INIT the invariant says what the counter and `ACK_EN` are in a wait. -/
theorem of_initd (hi : s.initd = true)
    (hcnt : s.pc ≠ .idle → 1 ≤ s.cnt.toNat ∧ s.cnt.toNat ≤ Config.nTimeout.toNat)
    (hack : s.pc = .r6 ∨ s.pc = .r7 → s.ackEn = false) : s.Reachable where
  active_initd _ := hi
  active_cnt_pos hp := (hcnt hp).1
  active_cnt_le hp := (hcnt hp).2
  ack_window := hack
  uninit hn := by simp [hi] at hn

/-- A freshly loaded budget is within the counter's bounds (R84 (a)). -/
theorem cnt_bounds_of_fresh (h : s.cnt = Config.nTimeout) :
    1 ≤ s.cnt.toNat ∧ s.cnt.toNat ≤ Config.nTimeout.toNat :=
  ⟨h.symm ▸ Config.nTimeout_pos, (congrArg BitVec.toNat h).le⟩

theorem afterCommand (h : s.Reachable) (hp : s.pc = .idle) (i : Instr) : (Machine.afterCommand i s).Reachable := by
  cases hi : s.initd with
  | false =>
    refine of_idle (by simp [afterCommand_pc, hp, hi]) fun hn => ?_
    have hni : i ≠ .init := by simpa [afterCommand_initd, hi] using hn
    simp [afterCommand_ackEn, hni, (h.uninit hi).1]
  | true =>
    refine of_initd (by simp [afterCommand_initd, hi]) (fun hn => ?_) (fun hw => ?_)
    · exact cnt_bounds_of_fresh (afterCommand_cnt i s (hp ▸ hn))
    · cases i <;> simp [afterCommand_pc, hp, hi, firstPc] at hw

/-- R102 and R103: `R6` is entered with `ACK_EN` 0, and `R7` from `R6` only. -/
theorem exitWait (h : s.Reachable) (hp : s.pc ≠ .idle) (f : FlagSample) : (s.exitWait f).Reachable := by
  refine of_initd (by simpa using h.active_initd hp) (fun hn => ?_) (fun hw => ?_)
  · rw [State.exitWait_pc] at hn
    exact cnt_bounds_of_fresh (by simp [State.exitWait_cnt, hn])
  · rw [State.exitWait_pc, Pc.next_eq_r6, Pc.next_eq_r7] at hw
    rcases hw with hw | hw
    · simp [State.exitWait_ackEn, hw]
    · simp [State.exitWait_ackEn, hw, h.ack_window (.inl hw)]

/-- R83: the counter is taken down only from 2 or more. -/
theorem pollFail (h : s.Reachable) (hp : s.pc ≠ .idle) : s.pollFail.Reachable := by
  have hi := h.active_initd hp
  rcases s.pollFail_cases with ⟨-, ht⟩ | ⟨h1, ht⟩ <;> rw [ht]
  · exact of_idle rfl fun hn => by simp [hi] at hn
  · refine of_initd hi (fun _ => ?_) h.ack_window
    have hpos := h.active_cnt_pos hp
    have hle := h.active_cnt_le hp
    simp only [State.setCnt_cnt]
    bv_omega

theorem poll (h : s.Reachable) (hp : s.pc ≠ .idle) : s.poll.Reachable := by
  have hs : s.sampled.Reachable := { h with }
  rw [State.poll, State.pollOn]
  split
  · exact hs.exitWait hp _
  · exact hs.pollFail hp

/-- R32: the invariant is inductive. -/
theorem step (h : s.Reachable) {t : State} (ht : Machine.step s = .next t) : t.Reachable := by
  have hb : s.beginStep.Reachable := { h with }
  rcases step_cases ht with ⟨-, rfl⟩ | ⟨-, -, -, rfl⟩ | ⟨-, hp, w, i, -, -, rfl⟩ | ⟨-, -, w, e, -, -, rfl⟩ |
    ⟨-, hp, rfl⟩
  · exact of_idle rfl fun _ => rfl
  · exact hb
  · exact hb.afterCommand hp i
  · exact { hb with }
  · exact hb.poll hp

end State.Reachable

/-- Settles O49: no transaction is in flight and `ACK_EN` is 0. -/
theorem resetIsReachable : Obligations.ResetIsReachable :=
  .of_idle rfl fun _ => rfl

/-- Settles O50: each of the five kinds of step keeps the invariant. -/
theorem stepKeepsReachable : Obligations.StepKeepsReachable :=
  fun _ _ h ht => h.step ht

end Sys2Proof.Machine

/-! ## Who writes which register (R14 to R17, R21, R24, R25) -/

namespace Sys2Proof.Machine

/-- Settles O9: the control registers of the reset state, as R31 states them. -/
theorem resetLeavesControlClear : Obligations.ResetLeavesControlClear :=
  ⟨rfl, rfl, rfl, rfl⟩

/-- Settles O34: one clause for each row of R21, each the step lemma of its row. -/
theorem sequencerTransitions : Obligations.SequencerTransitions := by
  intro s t h
  refine ⟨fun hr => ?_, fun hr hp hc => ?_, fun w e ⟨hr, hp, hc⟩ hd => ?_, fun w ⟨hr, hp, hc⟩ hd => ?_,
    fun w a r ⟨hr, hp, hc⟩ hd => ?_, fun w a r v ⟨hr, hp, hc⟩ hd => ?_, fun hr hp => ?_, fun hp hn hne => ?_⟩
  · rw [step_unique h (step_reset hr)]
    rfl
  · rw [step_unique h (step_idle hr hp hc)]
    exact hp
  · rw [step_unique h (step_illegal hr hp hc hd)]
    exact hp
  · rw [step_unique h (step_command hr hp hc hd), afterCommand_pc _ s.beginStep hp]
    exact ite_self _
  · rw [step_unique h (step_command hr hp hc hd), afterCommand_pc _ s.beginStep hp]
    rfl
  · rw [step_unique h (step_command hr hp hc hd), afterCommand_pc _ s.beginStep hp]
    rfl
  · rw [step_unique h (step_poll hr hp), State.poll_pc]
    exact ⟨fun hc => by simp [hc], fun hc h1 => by simp [hc, h1], fun hc h1 => by simp [hc, h1]⟩
  · rcases step_pc_of_wait h hp with ht | ht | ht
    · exact absurd ht hn
    · exact absurd ht hne
    · rw [ht] at hn ⊢
      exact Pc.next_dir_ph hn

/-! ### `ACK_EN` (R24) -/

section
variable (s : State) (b : Bool)

/-- No command looks at `ACK_EN`. -/
theorem afterCommand_setAckEn (i : Instr) :
    ∃ c, afterCommand i (s.setAckEn b) = (afterCommand i s).setAckEn c := by
  refine ⟨(afterCommand i (s.setAckEn b)).ackEn, ?_⟩
  cases i <;> cases hi : s.initd <;> simp only [afterCommand, State.setAckEn_initd, hi] <;> rfl

/-- No exit looks at `ACK_EN`. -/
theorem State.exitWait_setAckEn (f : FlagSample) :
    ∃ c, (s.setAckEn b).exitWait f = (s.exitWait f).setAckEn c := by
  refine ⟨((s.setAckEn b).exitWait f).ackEn, ?_⟩
  simp only [State.exitWait, State.setAckEn_pc]
  cases s.pc <;> rfl

theorem State.pollFail_setAckEn : (s.setAckEn b).pollFail = s.pollFail.setAckEn b := by
  rcases s.pollFail_cases with ⟨h1, h⟩ | ⟨h1, h⟩ <;> rw [h]
  · exact if_pos h1
  · exact if_neg h1

@[simp] theorem State.sampled_setAckEn : (s.setAckEn b).sampled = s.sampled.setAckEn b := rfl

@[simp] theorem State.sample_setAckEn : (s.setAckEn b).sample = s.sample := rfl

/-- No poll looks at `ACK_EN`. -/
theorem State.poll_setAckEn : ∃ c, (s.setAckEn b).poll = s.poll.setAckEn c := by
  by_cases hc : waitCond s.pc s.sample = true
  · obtain ⟨c, h⟩ := s.sampled.exitWait_setAckEn b s.sample
    exact ⟨c, by simpa [State.poll, State.pollOn, hc] using h⟩
  · exact ⟨b, by simpa [State.poll, State.pollOn, hc] using s.sampled.pollFail_setAckEn b⟩

/-- R24: nothing in the CORE reads `ACK_EN`. -/
theorem step_setAckEn {t : State} (h : step s = .next t) : ∃ c, step (s.setAckEn b) = .next (t.setAckEn c) := by
  rcases step_cases h with ⟨hr, rfl⟩ | ⟨hr, hp, hc, rfl⟩ | ⟨hr, hp, w, i, hc, hd, rfl⟩ |
    ⟨hr, hp, w, e, hc, hd, rfl⟩ | ⟨hr, hp, rfl⟩
  · exact ⟨false, step_reset hr⟩
  · exact ⟨b, step_idle hr hp hc⟩
  · obtain ⟨c, h⟩ := afterCommand_setAckEn s.beginStep b i
    exact ⟨c, (step_command (s := s.setAckEn b) hr hp hc hd).trans (congrArg _ h)⟩
  · exact ⟨b, step_illegal (s := s.setAckEn b) hr hp hc hd⟩
  · obtain ⟨c, h⟩ := s.beginStep.poll_setAckEn b
    exact ⟨c, (step_poll (s := s.setAckEn b) hr hp).trans (congrArg _ h)⟩

end

/-- Settles O35: the writes by the acceptance and by the poll, and that a step commutes with writing `ACK_EN`. -/
theorem ackEnWrittenInThreePlacesAndNeverRead : Obligations.AckEnWrittenInThreePlacesAndNeverRead := by
  refine ⟨fun s t h hr hp => ?_, fun s t h hr hp => ?_, fun s t b h => step_setAckEn s b h, fun s => rfl⟩
  · rw [step_unique h (step_poll hr hp)]
    exact s.beginStep.poll_ackEn
  · rcases step_cases h with ⟨hr', -⟩ | ⟨-, -, hc, rfl⟩ | ⟨-, -, w, i, hc, hd, rfl⟩ | ⟨-, -, w, e, hc, hd, rfl⟩ |
      ⟨-, hp', -⟩
    · simp [hr] at hr'
    · simp [hc]
    · have hinit : (∃ w, s.hostNow.cmd = some w ∧ decode w = .ok .init) ↔ i = .init := by simp [hc, hd]
      rw [hinit, afterCommand_ackEn]
      exact ⟨fun hx => if_pos hx, fun hx => if_neg hx⟩
    · simp [hc, hd]
    · exact absurd hp hp'

/-! ### `INITD` (R25) -/

/-- Settles O38: among the five kinds of step only a reset and an accepted command write `INITD`. -/
theorem initdMeansInitSinceReset : Obligations.InitdMeansInitSinceReset := by
  intro s t h
  rcases step_cases h with ⟨hr, rfl⟩ | ⟨hr, hp, hc, rfl⟩ | ⟨hr, hp, w, i, hc, hd, rfl⟩ |
    ⟨hr, hp, w, e, hc, hd, rfl⟩ | ⟨hr, hp, rfl⟩
  · simp [hr]
  · simp [hr, State.Accepts, hc]
  · simp [hr, State.Accepts, hc, hp, hd, afterCommand_initd]
  · simp [hr, State.Accepts, hc, hp, hd]
  · simp [hr, State.Accepts, hp]

/-! ### The latches (R14 to R17) -/

/-- Settles O39: the two acceptances by the decoder's fields, and the three changes by the kind of step that makes them. -/
theorem latchesWrittenOnlyByTheirRules : Obligations.LatchesWrittenOnlyByTheirRules := by
  intro s t h hr
  refine ⟨fun w a r ⟨_, hp, hc⟩ hd hi => ?_, fun w a r v ⟨_, hp, hc⟩ hd hi => ?_, ?_⟩
  · have hf : a = w.addr7 ∧ r = w.reg8 := by simpa using decode_fields hd
    rw [step_unique h (step_command hr hp hc hd)]
    simp [afterCommand, hi, hf]
  · have hf : a = w.addr7 ∧ r = w.reg8 ∧ v = w.val8 := by simpa using decode_fields hd
    rw [step_unique h (step_command hr hp hc hd)]
    simp [afterCommand, hi, hf]
  · rcases step_cases h with ⟨hr', -⟩ | ⟨-, hp, hc, rfl⟩ | ⟨-, hp, w, i, hc, hd, rfl⟩ |
      ⟨-, hp, w, e, hc, hd, rfl⟩ | ⟨-, hp, rfl⟩
    · simp [hr] at hr'
    · simp
    · exact ⟨fun hw => ⟨hp, afterCommand_pc_of_dev_or_reg i s.beginStep hw⟩,
        (fun hw => ⟨hp, afterCommand_pc_of_dat i s.beginStep hw⟩), by simp⟩
    · simp
    · refine ⟨by simp, by simp, fun hne => ?_⟩
      rw [State.poll_res] at hne ⊢
      split at hne
      case isTrue hx =>
        obtain ⟨h6, hc⟩ := hx
        rw [if_pos ⟨h6, hc⟩, State.poll_pc, if_pos hc]
        exact ⟨h6, Pc.next_eq_r7.mpr h6, rfl⟩
      case isFalse => exact absurd rfl hne

end Sys2Proof.Machine

/-! ## The environment and the action list after a step

What each way a step without `rst` can go (40_sequencer_common.md R80 cases 3 and 4) hands the environment and emits,
so that the statements of 20_memory.md are read off. -/

namespace Sys2Proof.Machine

/-! ### The environment -/

/-- Only an INIT that is carried out and a transaction's acceptance reach the environment (R93, R96, R108). -/
theorem afterCommand_env (i : Instr) (s : State) :
    (afterCommand i s).env =
      if i = .init then (if s.initd then s.env else s.env.onAction .configure)
      else if s.initd then s.env.onTransaction.onEnterWait else s.env := by
  cases i <;> cases hi : s.initd <;> simp [afterCommand, hi]

/-- R88: a poll that leaves its wait hands the environment the exit's actions, any other poll only takes a sample. -/
theorem State.poll_env (s : State) :
    s.poll.env =
      if waitCond s.pc s.sample = true then
        if s.pc.next = .idle then s.exitActions.foldl Env.onAction s.env.onSample
        else (s.exitActions.foldl Env.onAction s.env.onSample).onEnterWait
      else s.env.onSample := by
  rcases poll_cases s with ⟨hc, h⟩ | ⟨hc, -, h⟩ | ⟨hc, -, h⟩
  · rw [h, if_pos hc, State.exitWait_env]
    rfl
  · simp [h, hc]
  · simp [h, hc]

theorem Env.wf_foldl_onAction {env : Env} (h : env.wf) (acts : List Action) : (acts.foldl Env.onAction env).wf := by
  induction acts generalizing env with
  | nil => exact h
  | cons a acts ih => exact ih (Env.wf_onAction h a)

theorem afterCommand_env_wf {s : State} (h : s.env.wf) (i : Instr) : (afterCommand i s).env.wf := by
  rw [afterCommand_env]
  split
  · split
    · exact h
    · exact Env.wf_onAction h _
  · split
    · exact Env.wf_onEnterWait (Env.wf_onTransaction h)
    · exact h

theorem State.poll_env_wf {s : State} (h : s.env.wf) : s.poll.env.wf := by
  have hs := Env.wf_onSample h
  rw [State.poll_env]
  split
  · split
    · exact Env.wf_foldl_onAction hs _
    · exact Env.wf_onEnterWait (Env.wf_foldl_onAction hs _)
  · exact hs

/-- Settles O52: every event of a step keeps the canonical form, because every action does. -/
theorem stepKeepsMemoryCanonical : Obligations.StepKeepsMemoryCanonical := by
  intro s t hw h
  rcases step_cases h with ⟨-, rfl⟩ | ⟨-, -, -, rfl⟩ | ⟨-, -, w, i, -, -, rfl⟩ | ⟨-, -, w, ill, -, -, rfl⟩ | ⟨-, -, rfl⟩
  · exact Env.wf_onReset hw
  · exact hw
  · exact afterCommand_env_wf (s := s.beginStep) hw i
  · exact hw
  · exact State.poll_env_wf (s := s.beginStep) hw

/-! ### The flag port (R40) -/

/-- R40: each flag stands at its own bit of the port. -/
theorem FlagSample.getLsbD_flagsPort (f : FlagSample) :
    f.flagsPort.getLsbD 0 = f.busy ∧ f.flagsPort.getLsbD 1 = f.evMs ∧ f.flagsPort.getLsbD 2 = f.evTxsel ∧
      f.flagsPort.getLsbD 3 = f.evTxing ∧ f.flagsPort.getLsbD 4 = f.btf ∧ f.flagsPort.getLsbD 5 = f.addr ∧
      f.flagsPort.getLsbD 6 = f.rxne ∧ f.flagsPort.getLsbD 7 = f.stopf ∧ f.flagsPort.getLsbD 8 = f.af := by
  simp only [FlagSample.flagsPort, BitVec.getLsbD_append, BitVec.getLsbD_ofBool]
  refine ⟨?_, ?_, ?_, ?_, ?_, ?_, ?_, ?_, ?_⟩ <;> simp

theorem FlagSample.ofPorts_flagsPort (f : FlagSample) : FlagSample.ofPorts f.flagsPort f.rxData = f := by
  obtain ⟨h0, h1, h2, h3, h4, h5, h6, h7, h8⟩ := f.getLsbD_flagsPort
  rw [FlagSample.ofPorts, h0, h1, h2, h3, h4, h5, h6, h7, h8]

/-- A port's nine bits, put side by side again, are the port. -/
theorem FlagSample.flagsPort_ofPorts (v : BitVec 9) (b : Byte) : (FlagSample.ofPorts v b).flagsPort = v := by
  obtain ⟨h0, h1, h2, h3, h4, h5, h6, h7, h8⟩ := (FlagSample.ofPorts v b).getLsbD_flagsPort
  refine BitVec.eq_of_getLsbD_eq fun k hk => ?_
  interval_cases k <;> assumption

/-- Settles O47: every flag stands at its own bit of the port. -/
theorem flagsPortCarriesTheSample : Obligations.FlagsPortCarriesTheSample :=
  ⟨fun v b => ⟨FlagSample.flagsPort_ofPorts v b, rfl⟩, fun f => ⟨f.ofPorts_flagsPort, f.getLsbD_flagsPort⟩⟩

/-- Settles O51: the lists ENV-ECHO starts with are built by writes into the empty memory. -/
theorem resetEnvironmentIsCanonical : Obligations.ResetEnvironmentIsCanonical :=
  ⟨State.reset_env_wf, Memory.wf_nil, fun present mem0 ptr0 sel nbytes rx =>
    ⟨EchoEnv.wf_initial present mem0 ptr0 sel nbytes rx, FlagSample.flagsPort_ofPorts 0#9 rx, rfl, rfl⟩⟩

/-! ### The actions of a step (R42) -/

/-- INIT is the only command that emits in its acceptance step, and only where it is carried out (R93, R95). -/
theorem afterCommand_actions (i : Instr) (s : State) :
    (afterCommand i s).out.actions = s.out.actions ++ if i = .init ∧ s.initd = false then [.configure] else [] := by
  cases i <;> cases hi : s.initd <;> simp [afterCommand, hi]

theorem State.poll_actions (s : State) :
    s.poll.out.actions = s.out.actions ++ if waitCond s.pc s.sample = true then s.exitActions else [] := by
  rcases poll_cases s with ⟨hc, h⟩ | ⟨hc, -, h⟩ | ⟨hc, -, h⟩
  · rw [h, if_pos hc, State.exitWait_out]
    rfl
  · simp [h, hc]
  · simp [h, hc]

/-- A step emits the actions of the exit it takes, or nothing, or `CONFIGURE` in the idle state. -/
theorem step_actions {s t : State} (h : step s = .next t) :
    (s.hostNow.rst = false ∧ s.pc ≠ .idle ∧ waitCond s.pc s.sample = true ∧ t.out.actions = s.exitActions) ∨
    ((s.hostNow.rst = true ∨ s.pc ≠ .idle ∧ waitCond s.pc s.sample = false) ∧ t.out.actions = []) ∨
    (s.hostNow.rst = false ∧ s.pc = .idle ∧
      (t.out.actions = [] ∨ t.out.actions = [.configure] ∧ t.ackEn = true)) := by
  rcases step_cases h with ⟨hr, rfl⟩ | ⟨hr, hp, -, rfl⟩ | ⟨hr, hp, w, i, -, -, rfl⟩ | ⟨hr, hp, w, ill, -, -, rfl⟩ |
    ⟨hr, hp, rfl⟩
  · exact .inr (.inl ⟨.inl hr, rfl⟩)
  · exact .inr (.inr ⟨hr, hp, .inl rfl⟩)
  · refine .inr (.inr ⟨hr, hp, ?_⟩)
    rw [afterCommand_actions, afterCommand_ackEn]
    by_cases hi : i = .init ∧ s.beginStep.initd = false
    · exact .inr ⟨by rw [if_pos hi]; rfl, if_pos hi⟩
    · exact .inl (by rw [if_neg hi]; rfl)
  · exact .inr (.inr ⟨hr, hp, .inl rfl⟩)
  · have ha := s.beginStep.poll_actions
    cases hc : waitCond s.pc s.sample with
    | true => exact .inl ⟨hr, hp, rfl, ha.trans (if_pos hc)⟩
    | false => exact .inr (.inl ⟨.inr ⟨hp, rfl⟩, ha.trans (if_neg (by simp [hc]))⟩)

section
variable (s : State)

theorem State.ackDisable_mem_exitActions : .ackDisable ∈ s.exitActions ↔ s.pc = .r5 := by
  cases hp : s.pc <;> simp [State.exitActions, hp]

theorem State.ackEnable_mem_exitActions : .ackEnable ∈ s.exitActions ↔ s.pc = .r7 := by
  cases hp : s.pc <;> simp [State.exitActions, hp]

theorem State.configure_notMem_exitActions : .configure ∉ s.exitActions := by
  cases hp : s.pc <;> simp [State.exitActions, hp]

theorem State.exitActions_pairwise : s.exitActions.Pairwise (fun x y => x.bit < y.bit) := by
  cases hp : s.pc <;> simp [State.exitActions, hp, Action.bit]

theorem State.exitActions_sends : (s.exitActions.filterMap Action.txByte).length ≤ 1 := by
  cases hp : s.pc <;> simp [State.exitActions, hp, Action.txByte, List.filterMap_cons]

theorem State.exitActions_length (h : 2 ≤ s.exitActions.length) : s.pc = .r5 ∨ s.pc = .r7 := by
  cases hp : s.pc <;> simp [State.exitActions, hp] at h ⊢

end

/-- Settles O45: the exits' lists by inspection of the thirteen waits, and no other step emits more than `CONFIGURE`. -/
theorem actionListsAreOrdered : Obligations.ActionListsAreOrdered := by
  intro s t h
  rcases step_actions h with ⟨hr, hp, hc, ha⟩ | ⟨hq, ha⟩ | ⟨hr, hp, ha | ⟨ha, -⟩⟩ <;> rw [ha]
  · refine ⟨s.exitActions_pairwise, s.exitActions_sends, fun hl => ⟨s.exitActions_length hl, hc⟩, ?_, ?_⟩
    · simp [hr, hc]
    · exact fun hi => absurd hi hp
  · simp
  · simp
  · simp [hr, hp, Action.txByte, List.filterMap_cons]

/-- Settles O36: the strobes are in the action lists of two exits only, and `ACK_EN` after those is R24's. -/
theorem ackStrobesGoWithAckEn : Obligations.AckStrobesGoWithAckEn := by
  intro s t h
  refine ⟨rfl, ?_⟩
  rcases step_actions h with ⟨hr, hp, hc, ha⟩ | ⟨hq, ha⟩ | ⟨hr, hp, ha | ⟨ha, hk⟩⟩ <;> rw [ha]
  · have hack := ackEnWrittenInThreePlacesAndNeverRead.1 s t h hr hp
    rw [s.ackDisable_mem_exitActions, s.ackEnable_mem_exitActions]
    refine ⟨⟨fun h5 => ⟨⟨hr, h5⟩, h5 ▸ hc⟩, fun h5 => h5.1.2⟩, ⟨fun h7 => ⟨⟨hr, h7⟩, h7 ▸ hc⟩, fun h7 => h7.1.2⟩,
      fun h5 => ?_, fun h7 => ?_, fun hx => absurd hx s.configure_notMem_exitActions⟩
    · rw [hack, if_pos ⟨h5, hc⟩]
    · rw [hack, if_neg (by simp [h7]), if_pos ⟨h7, hc⟩]
  · have hno : ∀ p, p ≠ .idle → ¬(s.PollsIn p ∧ waitCond p s.sample = true) := by
      rintro p - ⟨⟨hr, rfl⟩, hc⟩
      simp [hr, hc] at hq
    simp [hno]
  · simp [State.PollsIn, hp]
  · simp [State.PollsIn, hp, hk]

/-! ### The strobe vector and `tx_byte` (R42) -/

theorem Action.bit_lt (a : Action) : a.bit < 10 := by
  cases a <;> simp [Action.bit]

/-- A strobe is set exactly where it was set before or an action of the list sets it. -/
theorem getLsbD_foldl_strobes (acts : List Action) (v : BitVec 10) (b : Nat) :
    (acts.foldl (fun v a => v ||| BitVec.twoPow 10 a.bit) v).getLsbD b =
      (v.getLsbD b || decide (b ∈ acts.map Action.bit)) := by
  induction acts generalizing v with
  | nil => simp
  | cons a acts ih =>
    have ha := a.bit_lt
    have hset : (BitVec.twoPow 10 a.bit).getLsbD b = decide (b = a.bit) := by
      simp only [BitVec.getLsbD_twoPow, ha, decide_true, Bool.true_and, eq_comm]
    rw [List.foldl_cons, ih, BitVec.getLsbD_or, hset, Bool.or_assoc, List.map_cons]
    simp

theorem Outputs.getLsbD_actPort (o : Outputs) (b : Nat) :
    o.actPort.getLsbD b = decide (b ∈ o.actions.map Action.bit) := by
  simp [Outputs.actPort, getLsbD_foldl_strobes]

/-- Strobes in ascending order are an ascending action list: two ascending lists with the same entries are equal. -/
theorem Outputs.strobes_eq (o : Outputs) (h : o.actions.Pairwise (fun x y => x.bit < y.bit)) :
    (List.range 10).filter (fun b => o.actPort.getLsbD b) = o.actions.map Action.bit := by
  have hl : ((List.range 10).filter (fun b => o.actPort.getLsbD b)).Pairwise (· < ·) :=
    List.pairwise_lt_range.filter _
  have hr : (o.actions.map Action.bit).Pairwise (· < ·) := List.pairwise_map.2 h
  refine hl.eq_of_mem_iff hr fun b => ?_
  rw [List.mem_filter, List.mem_range, o.getLsbD_actPort, decide_eq_true_iff, and_iff_right_iff_imp]
  intro hb
  obtain ⟨a, -, rfl⟩ := List.mem_map.1 hb
  exact a.bit_lt

/-- The actions that carry a byte are the two sends. -/
theorem Action.txByte_eq_some {a : Action} {b : Byte} : a.txByte = some b ↔ a = .sendAddr b ∨ a = .sendData b := by
  cases a <;> simp [Action.txByte]

/-- Where the list holds one send at most, the first send's byte is every send's byte. -/
theorem Outputs.txByte_eq_some (o : Outputs) (h : (o.actions.filterMap Action.txByte).length ≤ 1) (b : Byte) :
    (.sendAddr b ∈ o.actions ∨ .sendData b ∈ o.actions) ↔ o.txByte = some b := by
  have hmem : (.sendAddr b ∈ o.actions ∨ .sendData b ∈ o.actions) ↔ b ∈ o.actions.filterMap Action.txByte := by
    simp only [List.mem_filterMap, Action.txByte_eq_some, and_or_left, exists_or, exists_eq_right]
  rw [hmem, Outputs.txByte, ← List.head?_filterMap]
  match o.actions.filterMap Action.txByte, h with
  | [], _ => simp
  | [c], _ => simp [eq_comm]

/-- Settles O48: a step's list is ascending with one send at most (O45), and such a list is what the ports show. -/
theorem strobesCarryTheActions : Obligations.StrobesCarryTheActions := by
  intro s t h
  obtain ⟨hsorted, hsends, -⟩ := actionListsAreOrdered s t h
  exact ⟨t.out.strobes_eq hsorted, t.out.txByte_eq_some hsends⟩

/-! ### Device registers (R47, R56) -/

/-- Actions other than `SEND_DATA` leave every device register alone. -/
theorem Env.readCell_foldl_onAction (env : Env) (d : DevAddr) (r : Byte) {acts : List Action}
    (h : ∀ b, .sendData b ∉ acts) : (acts.foldl Env.onAction env).readCell d r = env.readCell d r := by
  induction acts generalizing env with
  | nil => rfl
  | cons a acts ih =>
    have ha : (env.onAction a).readCell d r = env.readCell d r := by
      cases env with
      | echo e =>
        have hne : ∀ b, a = .sendData b → e.storeTarget ≠ some (d, r) := by
          rintro b rfl
          exact absurd List.mem_cons_self (h b)
        simp [EchoEnv.readCell_onAction a hne]
      | oracle fs => rfl
      | script sc => rfl
    rw [List.foldl_cons, ih _ fun b hb => h b (List.mem_cons_of_mem _ hb), ha]

/-- The exits of `R2`, `W2` and `W3` emit one `SEND_DATA` and nothing else; the other exits emit none. -/
theorem State.exitActions_sendData (s : State) :
    ((s.pc = .r2 ∨ s.pc = .w2 ∨ s.pc = .w3) ∧ ∃ b, s.exitActions = [.sendData b]) ∨
      ∀ b, .sendData b ∉ s.exitActions := by
  cases hp : s.pc <;> simp [State.exitActions, hp]

theorem State.poll_readCell (s : State) (d : DevAddr) (r : Byte) :
    s.poll.env.readCell d r =
      if waitCond s.pc s.sample = true then (s.exitActions.foldl Env.onAction s.env.onSample).readCell d r
      else s.env.readCell d r := by
  rw [State.poll_env]
  split
  · split <;> simp
  · simp

/-- R56: the value byte lands at the pointer of the device it is sent to. -/
theorem EchoEnv.readCell_sendData_of_store {e : EchoEnv} {d : DevAddr} {r : Byte} (hw : e.wf)
    (h : e.storeTarget = some (d, r)) (b : Byte) : (e.onAction (.sendData b)).readCell d r = b := by
  obtain ⟨a, hsel⟩ : ∃ a, e.sel = some (a, .write) := by
    unfold EchoEnv.storeTarget at h
    split at h
    · exact ⟨_, by assumption⟩
    · simp at h
    · simp at h
  simp only [EchoEnv.onAction, EchoEnv.onSendData, hsel, h]
  exact Memory.read_write_same hw.1 _ _

/-- Settles O53: the only action that touches a device register is the `SEND_DATA` of three exits. -/
theorem deviceRegistersChangeOnlyByStores : Obligations.DeviceRegistersChangeOnlyByStores := by
  intro s t e he h
  refine ⟨fun d r hno => ?_, fun d r hw ⟨hr, hp⟩ hc hst => ?_⟩
  · rcases step_cases h with ⟨-, rfl⟩ | ⟨-, -, -, rfl⟩ | ⟨-, -, w, i, -, -, rfl⟩ | ⟨-, -, w, ill, -, -, rfl⟩ |
      ⟨hr, hp, rfl⟩
    · simp
    · simp
    · rw [afterCommand_env]
      split <;> split <;> simp
    · simp
    · rw [State.poll_readCell]
      split
      case isFalse => rfl
      case isTrue hc =>
        rcases s.beginStep.exitActions_sendData with ⟨hx, b, hb⟩ | hx
        · have hne : ∀ c, Action.sendData b = .sendData c → e.storeTarget ≠ some (d, r) :=
            fun _ _ hst => hno ⟨hr, hx, hc, hst⟩
          simp [hb, he, EchoEnv.readCell_onAction _ hne]
        · simp [Env.readCell_foldl_onAction _ d r hx]
  · rw [step_unique h (step_poll hr (by simp [hp])), State.poll_readCell, if_pos (by simpa [hp] using hc)]
    simp [State.exitActions, hp, he, EchoEnv.readCell_sendData_of_store hw hst]

/-! ### ENV-SCRIPT (R58) -/

/-- The awaited flag of the scripted sample is the script's answer. -/
theorem waitCond_withCond {p : Pc} (hp : p ≠ .idle) (f : FlagSample) (b : Bool) (rx : Byte) :
    waitCond p { f.withCond p b with rxData := rx } = b := by
  cases p <;> simp [waitCond, FlagSample.withCond] at hp ⊢

theorem ScriptEnv.answers_iff (e : ScriptEnv) (row : ScriptRow) (p : Pc) :
    e.answers row p = true ↔ ∃ j, row.firstTrue[p.ph.toNat]? = some (some j) ∧ j ≤ e.polls + 1 := by
  have hlt : p.ph.toNat < 8 := p.ph.isLt
  rw [ScriptEnv.answers, Vector.getElem?_eq_getElem hlt]
  cases row.firstTrue[p.ph.toNat] <;> simp

theorem State.sample_script {s : State} {e : ScriptEnv} {row : ScriptRow} (he : s.env = .script e)
    (hrow : e.rows[e.txn - 1]? = some row) :
    s.sample = { s.drawnSample.withCond s.pc (e.answers row s.pc) with rxData := row.byte } := by
  simp [State.sample, he, ScriptEnv.sample, hrow]

/-- No action reaches ENV-SCRIPT. -/
theorem Env.foldl_onAction_script (e : ScriptEnv) (acts : List Action) :
    acts.foldl Env.onAction (.script e) = .script e := by
  induction acts with
  | nil => rfl
  | cons a acts ih => exact ih

theorem Pc.next_ne_self {p : Pc} (hp : p ≠ .idle) : p.next ≠ p := by
  cases p <;> simp [Pc.next] at hp ⊢

/-- Settles O58: the sample is the row's, and the counts follow the poll and the acceptance that was made. -/
theorem scriptAnswersFromItsPollOn : Obligations.ScriptAnswersFromItsPollOn := by
  intro s t e row he hrow h hr
  have hs := s.sample_script he hrow
  refine ⟨fun hp => ⟨by rw [hs], ?_⟩, ?_⟩
  · rw [hs, waitCond_withCond hp, ScriptEnv.answers_iff]
  · rcases step_cases h with ⟨hr', -⟩ | ⟨-, hp, -, rfl⟩ | ⟨-, hp, w, i, -, -, rfl⟩ | ⟨-, hp, w, ill, -, -, rfl⟩ |
      ⟨-, hp, rfl⟩
    · simp [hr] at hr'
    · simp [hp, he]
    · rw [afterCommand_pc i s.beginStep hp, afterCommand_env]
      cases i <;> cases s.beginStep.initd <;> simp [firstPc, hp, he]
    · simp [hp, he]
    · rw [State.poll_pc, State.poll_env]
      have hne := Pc.next_ne_self hp
      by_cases hc : waitCond s.pc s.sample = true
      · by_cases hn : s.pc.next = .idle <;> simp [hc, hp, hn, hne, he, Env.foldl_onAction_script]
      · by_cases h1 : s.cnt = 1#32 <;> simp [hc, hp, h1, he]

end Sys2Proof.Machine

/-! ## Legal words (R62 to R65, R74) -/

namespace Sys2Proof

/-- The words of the three commands differ in `OPC`, so R74's masks tell them apart, and the fields give the operands
back. -/
theorem decode_encode (i : Instr) : decode (encode i) = .ok i := by
  cases i with
  | init => decide
  | wrb a r v =>
    have hrow : encode (.wrb a r v) &&& 0xFF800000#32 = 0x02000000#32 := Laws.EncodingRow.wrb a r v
    have hinit : encode (.wrb a r v) ≠ 0x01000000#32 := by
      intro h
      simp [h] at hrow
    rw [decode, if_neg hinit, if_pos hrow, encode, packCommand_addr7, packCommand_reg8, packCommand_val8]
  | rdb a r =>
    have hrow : encode (.rdb a r) &&& 0xFF8000FF#32 = 0x03000000#32 := Laws.EncodingRow.rdb a r
    have hinit : encode (.rdb a r) ≠ 0x01000000#32 := by
      intro h
      simp [h] at hrow
    have hwrb : encode (.rdb a r) &&& 0xFF800000#32 ≠ 0x02000000#32 := by
      have hmask : encode (.rdb a r) &&& 0xFF800000#32 = 0x03000000#32 := by
        calc encode (.rdb a r) &&& 0xFF800000#32
            = (encode (.rdb a r) &&& 0xFF8000FF#32) &&& 0xFF800000#32 := by rw [BitVec.and_assoc]; rfl
          _ = 0x03000000#32 := by rw [hrow]; rfl
      simp [hmask]
    rw [decode, if_neg hinit, if_neg hwrb, if_pos hrow, encode, packCommand_addr7, packCommand_reg8]

end Sys2Proof

/-! ## Runs of several steps -/

namespace Sys2Proof.Machine

/-- R92: no state stops the machine, so a run goes on. -/
theorem exists_step (s : State) : ∃ t, step s = .next t := by
  cases hr : s.hostNow.rst with
  | true => exact ⟨_, step_reset hr⟩
  | false =>
    by_cases hp : s.pc = .idle
    · cases hc : s.hostNow.cmd with
      | none => exact ⟨_, step_idle hr hp hc⟩
      | some w =>
        cases hd : decode w with
        | ok i => exact ⟨_, step_command hr hp hc hd⟩
        | error e => exact ⟨_, step_illegal hr hp hc hd⟩
    · exact ⟨_, step_poll hr hp⟩

theorem run_add {s t : State} {j : Nat} (k : Nat) (h : Host.Core.run core j s = .next t) :
    Host.Core.run core (j + k) s = Host.Core.run core k t := by
  induction j generalizing s with
  | zero =>
    cases h
    rw [Nat.zero_add]
  | succ j ih =>
    obtain ⟨u, hu⟩ := exists_step s
    rw [run_succ j hu] at h
    rw [Nat.succ_add, run_succ (j + k) hu, ih h]

/-- Every step takes one entry off the host's list. -/
theorem run_host {s t : State} {k : Nat} (h : Host.Core.run core k s = .next t) : t.host = s.host.drop k := by
  induction k generalizing s with
  | zero =>
    cases h
    rfl
  | succ k ih =>
    obtain ⟨u, hu⟩ := exists_step s
    rw [run_succ k hu] at h
    rw [ih h, step_host hu, List.drop_tail]

theorem State.noReset_mono {s : State} {j k : Nat} (h : s.noReset k) (hjk : j ≤ k) : s.noReset j :=
  fun i hi => h i (List.take_subset_take_left _ hjk hi)

/-- What the host does after `j` steps it does in the state they lead to. -/
theorem State.noReset_run {s t : State} {j k : Nat} (h : s.noReset (j + k)) (ht : Host.Core.run core j s = .next t) :
    t.noReset k := by
  intro i hi
  rw [run_host ht, List.take_drop] at hi
  exact h i (List.mem_of_mem_drop hi)

theorem State.hostNow_of_getElem? {s : State} {h : HostInput} (hh : s.host[0]? = some h) : s.hostNow = h := by
  cases hs : s.host with
  | nil => simp [hs] at hh
  | cons i l => simpa [State.hostNow, hs] using hh

/-- R89: as long as the host is quiet, the idle CORE leaves itself and the environment alone. -/
theorem run_idle {s : State} {m : Nat} (hp : s.pc = .idle) (hr : s.noReset m)
    (hc : ∀ i, i < m → ∀ h : HostInput, s.host[i]? = some h → h.cmd = none) :
    ∃ t : State, Host.Core.run core m s = .next t ∧ t.pc = .idle ∧ t.env = s.env ∧ t.initd = s.initd := by
  induction m generalizing s with
  | zero => exact ⟨s, rfl, hp, rfl, rfl⟩
  | succ m ih =>
    have hcmd : s.hostNow.cmd = none := by
      cases hs : s.host with
      | nil => simp [State.hostNow, hs, HostInput.quiet]
      | cons i l => simpa [State.hostNow, hs] using hc 0 (by omega) i (by simp [hs])
    have hstep := step_idle (State.noReset_succ hr) hp hcmd
    obtain ⟨t, ht, hpt, het, hit⟩ := ih (s := s.beginStep) hp (State.noReset_tail hr rfl) fun i hi h hh =>
      hc (i + 1) (by omega) h (by simpa using hh)
    exact ⟨t, (run_succ m hstep).trans ht, hpt, het, hit⟩

/-! ## Whole transactions against ENV-ECHO (R52 to R57, R59)

The actions a transaction has emitted when it comes to a wait (R105, R114) say what ENV-ECHO then holds, so its answers
are computed from these lists. -/

/-- The actions a transaction with `s`'s latches has emitted once it has come to the wait `p`. -/
def State.traceBefore (s : State) (p : Pc) : List Action :=
  match p.dir with
  | .read => readTraceBefore s.dev s.reg p
  | .write => writeTraceBefore s.dev s.reg s.dat p

/-- ENV-ECHO, first `e`, once a transaction with `s`'s latches has come to the wait `p`. -/
def State.echoAt (s : State) (e : EchoEnv) (p : Pc) : EchoEnv :=
  (s.traceBefore p).foldl EchoEnv.onAction e

/-- `t` has just entered a wait of the transaction whose first wait `s` entered, with ENV-ECHO then at `e`. -/
structure State.EchoWaits (s : State) (e : EchoEnv) (t : State) : Prop where
  wait : t.pc ≠ .idle
  cnt : t.cnt = Config.nTimeout
  env : t.env = .echo (s.echoAt e t.pc)
  dev : t.dev = s.dev
  reg : t.reg = s.reg
  dat : t.dat = s.dat
  res : t.pc = .r7 → t.res = (s.echoAt e .r6).flags.rxData
  ackEn : t.pc.dir = .write → t.ackEn = s.ackEn
  initd : t.initd = s.initd

/-- An exit's actions are what the trace grows by. -/
theorem State.traceBefore_next {s t : State} (hdev : t.dev = s.dev) (hreg : t.reg = s.reg) (hdat : t.dat = s.dat)
    (hn : t.pc.next ≠ .idle) : s.traceBefore t.pc.next = s.traceBefore t.pc ++ t.exitActions := by
  cases hp : t.pc <;>
    simp [State.traceBefore, State.exitActions, readTraceBefore, writeTraceBefore, Pc.next, Pc.dir, hp, hdev, hreg,
      hdat] at hn ⊢

theorem Env.foldl_onAction_echo (e : EchoEnv) (acts : List Action) :
    acts.foldl Env.onAction (.echo e) = .echo (acts.foldl EchoEnv.onAction e) := by
  induction acts generalizing e with
  | nil => rfl
  | cons a acts ih => exact ih (e.onAction a)

theorem State.sample_echo {s : State} {e : EchoEnv} (he : s.env = .echo e) : s.sample = e.flags := by
  simp [State.sample, he]

namespace State.EchoWaits

variable {s t : State} {e : EchoEnv}

/-- The sample is what ENV-ECHO has come to. -/
theorem sample (h : s.EchoWaits e t) : t.sample = (s.echoAt e t.pc).flags :=
  State.sample_echo h.env

/-- The first wait of a transaction. -/
theorem first (hp : s.pc = .r0 ∨ s.pc = .w0) (hcnt : s.cnt = Config.nTimeout) (he : s.env = .echo e) :
    s.EchoWaits e s where
  wait := by rcases hp with hp | hp <;> simp [hp]
  cnt := hcnt
  env := by rcases hp with hp | hp <;> rw [he, hp] <;> rfl
  dev := rfl
  reg := rfl
  dat := rfl
  res h7 := by simp [h7] at hp
  ackEn _ := rfl
  initd := rfl

theorem of_rdb {s : State} (he : s.env = .echo e) (a : DevAddr) (r : Byte) :
    (s.beginStep.readEffect a r).EchoWaits e (s.beginStep.readEffect a r) :=
  first (.inl (by simp)) (by simp) (by simp [he])

theorem of_wrb {s : State} (he : s.env = .echo e) (a : DevAddr) (r v : Byte) :
    (s.beginStep.writeEffect a r v).EchoWaits e (s.beginStep.writeEffect a r v) :=
  first (.inr (by simp)) (by simp) (by simp [he])

/-- A poll that ENV-ECHO answers leads to the next wait. -/
theorem exit (h : s.EchoWaits e t) (hr : t.hostNow.rst = false)
    (hc : waitCond t.pc (s.echoAt e t.pc).flags = true) (hn : t.pc.next ≠ .idle) :
    ∃ u, step t = .next u ∧ s.EchoWaits e u ∧ u.pc = t.pc.next := by
  refine ⟨_, step_exit hr h.wait (h.sample ▸ hc), ?_, by simp⟩
  constructor
  case wait => simpa using hn
  case cnt => simp [State.exitWait_cnt, hn]
  case env =>
    have hacts : t.beginStep.sampled.exitActions = t.exitActions := rfl
    simp [State.exitWait_env, hn, hacts, h.env, Env.foldl_onAction_echo, State.echoAt,
      State.traceBefore_next h.dev h.reg h.dat hn]
  case dev => simp [h.dev]
  case reg => simp [h.reg]
  case dat => simp [h.dat]
  case res =>
    intro h7
    rw [State.exitWait_pc, Pc.next_eq_r7] at h7
    have h6 : t.pc = .r6 := h7
    simp [State.exitWait_res, h6, h.sample]
  case ackEn =>
    intro hd
    rw [State.exitWait_pc] at hd
    have hdir : t.pc.dir = .write := (Pc.next_dir_ph hn).1.symm.trans hd
    have h5 : t.pc ≠ .r5 := fun hx => by simp [hx, Pc.dir] at hdir
    have h7 : t.pc ≠ .r7 := fun hx => by simp [hx, Pc.dir] at hdir
    simp [State.exitWait_ackEn, h5, h7, h.ackEn hdir]
  case initd => simp [h.initd]

/-- As many polls in a row as ENV-ECHO answers. -/
theorem run (h : s.EchoWaits e t) (k : Nat) (hr : t.noReset k) (hn : Pc.next^[k] t.pc ≠ .idle)
    (hc : ∀ j, j < k → waitCond (Pc.next^[j] t.pc) (s.echoAt e (Pc.next^[j] t.pc)).flags = true) :
    ∃ u : State, Host.Core.run core k t = .next u ∧ s.EchoWaits e u ∧ u.pc = Pc.next^[k] t.pc := by
  induction k generalizing t with
  | zero => exact ⟨t, rfl, h, rfl⟩
  | succ k ih =>
    have hn1 : t.pc.next ≠ .idle := fun hx => hn (by rw [Function.iterate_succ_apply, hx, Function.iterate_fixed rfl])
    obtain ⟨u, hu, hwu, hpu⟩ := h.exit (State.noReset_succ hr) (hc 0 (by omega)) hn1
    rw [Function.iterate_succ_apply, ← hpu] at hn ⊢
    obtain ⟨v, hv, hwv, hpv⟩ := ih hwu (State.noReset_tail hr (step_host hu)) hn fun j hj => by
      simpa [hpu] using hc (j + 1) (by omega)
    exact ⟨v, (run_succ k hu).trans hv, hwv, hpv⟩

end State.EchoWaits

/-- R85 against ENV-ECHO, whose flags only an action changes: a wait it does not answer times out with its last poll. -/
theorem run_echo_timeout {s : State} {e : EchoEnv} {n : Nat} (he : s.env = .echo e) (hp : s.pc ≠ .idle)
    (hc : waitCond s.pc e.flags = false) (hn : 1 ≤ n) (hcnt : s.cnt.toNat = n) (hr : s.noReset n) :
    ∃ t : State, Host.Core.run core n s = .next t ∧ t.pc = .idle ∧
      t.out = { actions := [], rsp := some { data := 0#32, status := .timeout, phase := s.pc.ph },
                diag := some { dir := s.pc.dir, phase := s.pc.ph } } := by
  induction n, hn using Nat.le_induction generalizing s with
  | base =>
    have h1 : s.cnt = 1#32 := BitVec.eq_of_toNat_eq hcnt
    have hstep := step_timeout (State.noReset_succ hr) hp (by rwa [State.sample_echo he]) h1
    exact ⟨_, run_succ 0 hstep, rfl, rfl⟩
  | succ n hn ih =>
    have h1 : s.cnt ≠ 1#32 := fun hx => by simp [hx] at hcnt; omega
    have hstep := step_pollFail (State.noReset_succ hr) hp (by rwa [State.sample_echo he]) h1
    obtain ⟨t, ht, hdone⟩ := ih (s := s.beginStep.sampled.setCnt (s.cnt - 1#32)) (by simp [he]) hp hc
      (by rw [State.setCnt_cnt]; bv_omega) (State.noReset_tail hr (step_host hstep))
    exact ⟨t, (run_succ n hstep).trans ht, hdone⟩

end Sys2Proof.Machine

namespace Sys2Proof.Machine

/-! ### What ENV-ECHO answers (R54 to R57) -/

section
variable {e : EchoEnv} {a : DevAddr}

/-- R55: a present device is selected and answers in transmitter direction. -/
theorem EchoEnv.sendAddr_write (h : a ∈ e.present) :
    e.onAction (.sendAddr (addressByte a .write)) =
      { e with sel := some (a, .write), nbytes := 0, flags := { e.flags with evMs := false, evTxsel := true } } := by
  simp [EchoEnv.onAction, EchoEnv.onSendAddr, h]

/-- R55: a present device is selected and answers in receiver direction. -/
theorem EchoEnv.sendAddr_read (h : a ∈ e.present) :
    e.onAction (.sendAddr (addressByte a .read)) =
      { e with sel := some (a, .read), nbytes := 0, flags := { e.flags with evMs := false, addr := true } } := by
  simp [EchoEnv.onAction, EchoEnv.onSendAddr, h]

/-- R55: an absent device answers with a stale `af` only. -/
theorem EchoEnv.sendAddr_absent (h : a ∉ e.present) (d : Dir) :
    e.onAction (.sendAddr (addressByte a d)) =
      { e with sel := none, flags := { e.flags with evMs := false, af := true } } := by
  simp [EchoEnv.onAction, EchoEnv.onSendAddr, h]

/-- R56: the first byte sets the pointer. -/
theorem EchoEnv.sendData_first (hs : e.sel = some (a, .write)) (hn : e.nbytes = 0) (b : Byte) :
    e.onAction (.sendData b) =
      { e.writePtr a b with
        nbytes := 1, flags := { e.flags with evTxsel := false, evTxing := true, btf := true } } := by
  simp [EchoEnv.onAction, EchoEnv.onSendData, EchoEnv.storeTarget, hs, hn]

/-- R56: a later byte is stored at the pointer. -/
theorem EchoEnv.sendData_store {r : Byte} (hs : e.sel = some (a, .write)) (hn : e.nbytes ≠ 0) (hp : e.readPtr a = r)
    (b : Byte) :
    e.onAction (.sendData b) =
      { e.writeCell a r b with
        nbytes := e.nbytes + 1, flags := { e.flags with evTxsel := false, evTxing := true, btf := true } } := by
  simp [EchoEnv.onAction, EchoEnv.onSendData, EchoEnv.storeTarget, hs, hn, hp]

/-- R57: the selected device supplies the byte at its pointer. -/
theorem EchoEnv.clearAddr_read {r : Byte} (hs : e.sel = some (a, .read)) (hp : e.readPtr a = r) :
    e.onAction .clearAddr =
      { e with flags := { e.flags with addr := false, rxData := e.readCell a r, rxne := true } } := by
  simp [EchoEnv.onAction, EchoEnv.onClearAddr, hs, hp]

theorem EchoEnv.wf_writePtr (h : e.wf) (a : DevAddr) (r : Byte) : (e.writePtr a r).wf :=
  ⟨h.1, Memory.wf_write h.2 _ _⟩

theorem EchoEnv.wf_writeCell (h : e.wf) (a : DevAddr) (r v : Byte) : (e.writeCell a r v).wf :=
  ⟨Memory.wf_write h.1 _ _, h.2⟩

theorem EchoEnv.readCell_writeCell (h : e.wf) (a : DevAddr) (r v : Byte) : (e.writeCell a r v).readCell a r = v :=
  Memory.read_write_same h.1 _ _

theorem EchoEnv.readCell_of_mem {e' : EchoEnv} (h : e'.mem = e.mem) (a : DevAddr) (r : Byte) :
    e'.readCell a r = e.readCell a r := by
  rw [EchoEnv.readCell, EchoEnv.readCell, h]

theorem EchoEnv.readPtr_writePtr (h : e.wf) (r : Byte) : (e.writePtr a r).readPtr a = r :=
  Memory.read_write_same h.2 _ _

/-- What both commands begin with: the device is selected and its pointer set (R105, R114). -/
theorem EchoEnv.foldl_read_r3 (h : a ∈ e.present) (r : Byte) :
    (readTraceBefore a r .r3).foldl EchoEnv.onAction e =
      { e.writePtr a r with
        sel := some (a, .write), nbytes := 1
        flags := { e.flags with busy := true, evMs := false, evTxsel := false, evTxing := true, btf := true } } := by
  have hp : a ∈ (e.onAction .start).present := h
  simp only [readTraceBefore, List.foldl_cons, List.foldl_nil]
  rw [EchoEnv.sendAddr_write hp, EchoEnv.sendData_first rfl rfl]
  rfl

/-- The device is selected again, in receiver direction. -/
theorem EchoEnv.foldl_read_r5 (h : a ∈ e.present) (r : Byte) :
    (readTraceBefore a r .r5).foldl EchoEnv.onAction e =
      { e.writePtr a r with
        sel := some (a, .read), nbytes := 0
        flags := { e.flags with
          busy := true, evMs := false, evTxsel := false, evTxing := false, btf := false, addr := true } } := by
  calc (readTraceBefore a r .r5).foldl EchoEnv.onAction e
      = (((readTraceBefore a r .r3).foldl EchoEnv.onAction e).onAction .start).onAction
          (.sendAddr (addressByte a .read)) := rfl
    _ = _ := by
      rw [EchoEnv.foldl_read_r3 h, EchoEnv.sendAddr_read]
      · rfl
      · exact h

/-- The byte at the pointer is supplied, and the STOP has freed the bus. -/
theorem EchoEnv.foldl_read_r6 (hw : e.wf) (h : a ∈ e.present) (r : Byte) :
    (readTraceBefore a r .r6).foldl EchoEnv.onAction e =
      { e.writePtr a r with
        sel := none, nbytes := 0
        flags := { busy := false, evMs := false, evTxsel := false, evTxing := false, btf := false, addr := false,
                   rxne := true, stopf := false, af := e.flags.af, rxData := e.readCell a r } } := by
  calc (readTraceBefore a r .r6).foldl EchoEnv.onAction e
      = (((readTraceBefore a r .r5).foldl EchoEnv.onAction e).onAction .clearAddr).onAction .stop := rfl
    _ = _ := by
      rw [EchoEnv.foldl_read_r5 h, EchoEnv.clearAddr_read (r := r) rfl]
      · rfl
      · exact EchoEnv.readPtr_writePtr hw r

/-- After a good read the bus is free and no device register has changed (R106). -/
theorem EchoEnv.after_read (hw : e.wf) (h : a ∈ e.present) (r : Byte) :
    ((readTraceWhole a r).foldl EchoEnv.onAction e).wf ∧ ((readTraceWhole a r).foldl EchoEnv.onAction e).BusFree ∧
      ((readTraceWhole a r).foldl EchoEnv.onAction e).present = e.present ∧
      ((readTraceWhole a r).foldl EchoEnv.onAction e).mem = e.mem := by
  have hlast : (readTraceWhole a r).foldl EchoEnv.onAction e =
      (((readTraceBefore a r .r6).foldl EchoEnv.onAction e).onAction .readData).onAction .clearAf := rfl
  rw [hlast, EchoEnv.foldl_read_r6 hw h]
  exact ⟨EchoEnv.wf_writePtr hw a r, ⟨rfl, rfl⟩, rfl, rfl⟩

/-- The value byte is stored at the register's address. -/
theorem EchoEnv.foldl_write_w4 (hw : e.wf) (h : a ∈ e.present) (r v : Byte) :
    (writeTraceBefore a r v .w4).foldl EchoEnv.onAction e =
      { (e.writePtr a r).writeCell a r v with
        sel := some (a, .write), nbytes := 2
        flags := { e.flags with busy := true, evMs := false, evTxsel := false, evTxing := true, btf := true } } := by
  calc (writeTraceBefore a r v .w4).foldl EchoEnv.onAction e
      = ((readTraceBefore a r .r3).foldl EchoEnv.onAction e).onAction (.sendData v) := rfl
    _ = _ := by
      rw [EchoEnv.foldl_read_r3 h, EchoEnv.sendData_store (r := r) rfl (by simp)]
      · rfl
      · exact EchoEnv.readPtr_writePtr hw r

/-- After a good write the byte is stored, nothing else is, and the bus is free (R115). -/
theorem EchoEnv.after_write (hw : e.wf) (h : a ∈ e.present) (r v : Byte) :
    ((writeTraceWhole a r v).foldl EchoEnv.onAction e).wf ∧ ((writeTraceWhole a r v).foldl EchoEnv.onAction e).BusFree ∧
      ((writeTraceWhole a r v).foldl EchoEnv.onAction e).present = e.present ∧
      ((writeTraceWhole a r v).foldl EchoEnv.onAction e).mem = (e.writeCell a r v).mem := by
  have hlast : (writeTraceWhole a r v).foldl EchoEnv.onAction e =
      ((writeTraceBefore a r v .w4).foldl EchoEnv.onAction e).onAction .stop := rfl
  rw [hlast, EchoEnv.foldl_write_w4 hw h]
  exact ⟨EchoEnv.wf_writeCell (EchoEnv.wf_writePtr hw a r) a r v, ⟨rfl, rfl⟩, rfl, rfl⟩

end

section
variable {s : State} {e : EchoEnv}

/-- A free bus answers the first wait, and `START` the second, whether the device is present or not (R54). -/
theorem State.echoAt_answers_start (hb : e.flags.busy = false) {p : Pc} (hp : p = .r0 ∨ p = .r1 ∨ p = .w0 ∨ p = .w1) :
    waitCond p (s.echoAt e p).flags = true := by
  rcases hp with rfl | rfl | rfl | rfl
  · exact congrArg not hb
  · rfl
  · exact congrArg not hb
  · rfl

/-- In a transaction with a present device ENV-ECHO has the awaited answer ready for every wait. -/
theorem State.echoAt_answers (hw : e.wf) (hb : e.flags.busy = false) (ha : s.dev ∈ e.present) {p : Pc}
    (hp : p ≠ .idle) : waitCond p (s.echoAt e p).flags = true := by
  have hsel : ((e.onAction .start).onAction (.sendAddr (addressByte s.dev .write))).flags.evTxsel = true := by
    rw [EchoEnv.sendAddr_write (e := e.onAction .start) ha]
  cases p with
  | idle => exact absurd rfl hp
  | w0 | r0 | w1 | r1 => exact State.echoAt_answers_start hb (by simp)
  | w2 | r2 => exact hsel
  | r3 => exact congrArg (fun x => x.flags.btf) (EchoEnv.foldl_read_r3 ha s.reg)
  | w3 => exact congrArg (fun x => x.flags.evTxing) (EchoEnv.foldl_read_r3 ha s.reg)
  | w4 => exact congrArg (fun x => x.flags.btf) (EchoEnv.foldl_write_w4 hw ha s.reg s.dat)
  | r4 => rfl
  | r5 => exact congrArg (fun x => x.flags.addr) (EchoEnv.foldl_read_r5 ha s.reg)
  | r6 => exact congrArg (fun x => x.flags.rxne) (EchoEnv.foldl_read_r6 hw ha s.reg)
  | r7 => rfl

/-- An absent device never answers its address (R55). -/
theorem State.echoAt_absent (ha : s.dev ∉ e.present) {p : Pc} (hp : p = .r2 ∨ p = .w2) :
    waitCond p (s.echoAt e p).flags = false := by
  have hsel : ((e.onAction .start).onAction (.sendAddr (addressByte s.dev .write))).flags.evTxsel = false := by
    rw [EchoEnv.sendAddr_absent (e := e.onAction .start) ha]
    rfl
  rcases hp with rfl | rfl <;> exact hsel

end

/-! ### The two commands from their acceptance on -/

/-- R96: an RDB accepted after INIT. -/
theorem step_rdb {s : State} {a : DevAddr} {r : Byte} (h : s.Accepts (encode (.rdb a r))) (hi : s.initd = true) :
    step s = .next (s.beginStep.readEffect a r) := by
  obtain ⟨hr, hp, hc⟩ := h
  simpa [afterCommand, hi] using step_command hr hp hc (decode_encode _)

/-- R108: a WRB accepted after INIT. -/
theorem step_wrb {s : State} {a : DevAddr} {r v : Byte} (h : s.Accepts (encode (.wrb a r v))) (hi : s.initd = true) :
    step s = .next (s.beginStep.writeEffect a r v) := by
  obtain ⟨hr, hp, hc⟩ := h
  simpa [afterCommand, hi] using step_command hr hp hc (decode_encode _)

namespace State.EchoWaits

variable {s t : State} {e : EchoEnv}

/-- The last poll of a write (R113). -/
theorem finish_write (h : s.EchoWaits e t) (hp : t.pc = .w4) (hr : t.hostNow.rst = false)
    (hc : waitCond .w4 (s.echoAt e .w4).flags = true) :
    ∃ u, Machine.step t = .next u ∧ u.pc = .idle ∧ u.initd = s.initd ∧ u.ackEn = s.ackEn ∧
      u.out.rsp = some { data := 0#32, status := .ok, phase := 0#3 } ∧
      u.env = .echo ((writeTraceWhole s.dev s.reg s.dat).foldl EchoEnv.onAction e) := by
  have henv : t.env = .echo (s.echoAt e .w4) := hp ▸ h.env
  have hlast : (writeTraceWhole s.dev s.reg s.dat).foldl EchoEnv.onAction e = (s.echoAt e .w4).onAction .stop := rfl
  refine ⟨_, step_exit hr h.wait (by rw [h.sample, hp]; exact hc), ?_, ?_, ?_, ?_, ?_⟩
  · simp [hp, Pc.next]
  · simp [h.initd]
  · simp [State.exitWait_ackEn, hp, h.ackEn (by simp [hp, Pc.dir])]
  · simp [State.exitWait_out, State.exitRsp, hp]
  · simp [State.exitWait_env, State.exitActions, hp, Pc.next, henv, hlast]

/-- The last poll of a read (R104): the byte that `R6` captured is returned. -/
theorem finish_read (h : s.EchoWaits e t) (hp : t.pc = .r7) (hr : t.hostNow.rst = false)
    (hc : waitCond .r7 (s.echoAt e .r7).flags = true) :
    ∃ u, Machine.step t = .next u ∧ u.pc = .idle ∧ u.initd = s.initd ∧ u.ackEn = true ∧
      u.out.rsp = some { data := resultWord (s.echoAt e .r6).flags.rxData, status := .ok, phase := 0#3 } ∧
      u.env = .echo ((readTraceWhole s.dev s.reg).foldl EchoEnv.onAction e) := by
  have henv : t.env = .echo (s.echoAt e .r7) := hp ▸ h.env
  have hlast : (readTraceWhole s.dev s.reg).foldl EchoEnv.onAction e =
      ((s.echoAt e .r7).onAction .ackEnable).onAction .clearAf := rfl
  refine ⟨_, step_exit hr h.wait (by rw [h.sample, hp]; exact hc), ?_, ?_, ?_, ?_, ?_⟩
  · simp [hp, Pc.next]
  · simp [h.initd]
  · simp [State.exitWait_ackEn, hp]
  · simp [State.exitWait_out, State.exitRsp, hp, h.res hp]
  · simp [State.exitWait_env, State.exitActions, hp, Pc.next, henv, hlast]

/-- R55, R150: in a transaction with an absent device the first two waits end at once, the third takes the whole
budget. -/
theorem absent (h : s.EchoWaits e s) (hp : s.pc = .r0 ∨ s.pc = .w0) (hb : e.flags.busy = false)
    (ha : s.dev ∉ e.present) (hr : s.noReset (2 + Config.nTimeout.toNat)) :
    ∃ t : State, Host.Core.run core (2 + Config.nTimeout.toNat) s = .next t ∧ t.pc = .idle ∧
      t.out = { actions := [], rsp := some { data := 0#32, status := .timeout, phase := 2#3 },
                diag := some { dir := s.pc.dir, phase := 2#3 } } := by
  have hn : s.pc.next.next = .r2 ∨ s.pc.next.next = .w2 := by rcases hp with hp | hp <;> simp [hp, Pc.next]
  have hwait : Pc.next^[2] s.pc ≠ .idle := by rcases hp with hp | hp <;> simp [hp, Pc.next]
  obtain ⟨u, hu, hwu, hpu⟩ := h.run 2 (State.noReset_mono hr (by omega)) hwait
    fun j hj => State.echoAt_answers_start hb (by interval_cases j <;> rcases hp with hp | hp <;> simp [hp, Pc.next])
  have hc : waitCond u.pc (s.echoAt e u.pc).flags = false := State.echoAt_absent ha (hpu ▸ hn)
  obtain ⟨t, ht, hpt, hot⟩ := run_echo_timeout hwu.env hwu.wait hc (n := Config.nTimeout.toNat) Config.nTimeout_pos
    (by rw [hwu.cnt]) (State.noReset_run hr hu)
  refine ⟨t, (run_add _ hu).trans ht, hpt, ?_⟩
  rw [hot, hpu]
  rcases hp with hp | hp <;> simp [hp, Pc.next, Pc.ph, Pc.dir]

end State.EchoWaits

section
variable {s : State} {e : EchoEnv} {a : DevAddr} {r : Byte}

/-- R115, R153: a WRB to a present device takes six steps, answers OK and hands ENV-ECHO the five actions of a write. -/
theorem run_echo_wrb {v : Byte} (he : s.env = .echo e) (hw : e.wf) (hb : e.BusFree) (ha : a ∈ e.present)
    (hacc : s.Accepts (encode (.wrb a r v))) (hi : s.initd = true) (hr : s.noReset 6) :
    ∃ t : State, Host.Core.run core 6 s = .next t ∧ t.pc = .idle ∧ t.initd = true ∧ t.ackEn = s.ackEn ∧
      t.out.rsp = some { data := 0#32, status := .ok, phase := 0#3 } ∧
      t.env = .echo ((writeTraceWhole a r v).foldl EchoEnv.onAction e) := by
  have hstep := step_wrb hacc hi
  have hr5 := State.noReset_tail hr (step_host hstep)
  have hans : ∀ p, p ≠ .idle → waitCond p ((s.beginStep.writeEffect a r v).echoAt e p).flags = true :=
    fun p hp => State.echoAt_answers hw hb.1 (by simpa using ha) hp
  obtain ⟨t, ht, hwt, hpt⟩ := (State.EchoWaits.of_wrb he a r v).run 4 (State.noReset_mono hr5 (by omega))
    (by simp [Pc.next]) fun j hj => hans _ (by interval_cases j <;> simp [Pc.next])
  obtain ⟨u, hu, hpu, hiu, hau, hou, heu⟩ := hwt.finish_write (by simpa [Pc.next] using hpt)
    (State.noReset_succ (State.noReset_run (k := 1) hr5 ht)) (hans .w4 (by simp))
  exact ⟨u, (run_succ 5 hstep).trans (run_snoc 4 ht hu), hpu, by simpa [hi] using hiu, by simpa using hau, hou,
    by simpa using heu⟩

/-- R106, R153: an RDB to a present device takes nine steps, answers with the register's byte and hands ENV-ECHO the
eleven actions of a read. -/
theorem run_echo_rdb (he : s.env = .echo e) (hw : e.wf) (hb : e.BusFree) (ha : a ∈ e.present)
    (hacc : s.Accepts (encode (.rdb a r))) (hi : s.initd = true) (hr : s.noReset 9) :
    ∃ t : State, Host.Core.run core 9 s = .next t ∧ t.pc = .idle ∧ t.initd = true ∧ t.ackEn = true ∧
      t.out.rsp = some { data := resultWord (e.readCell a r), status := .ok, phase := 0#3 } ∧
      t.env = .echo ((readTraceWhole a r).foldl EchoEnv.onAction e) := by
  have hstep := step_rdb hacc hi
  have hr8 := State.noReset_tail hr (step_host hstep)
  have hans : ∀ p, p ≠ .idle → waitCond p ((s.beginStep.readEffect a r).echoAt e p).flags = true :=
    fun p hp => State.echoAt_answers hw hb.1 (by simpa using ha) hp
  obtain ⟨t, ht, hwt, hpt⟩ := (State.EchoWaits.of_rdb he a r).run 7 (State.noReset_mono hr8 (by omega))
    (by simp [Pc.next]) fun j hj => hans _ (by interval_cases j <;> simp [Pc.next])
  obtain ⟨u, hu, hpu, hiu, hau, hou, heu⟩ := hwt.finish_read (by simpa [Pc.next] using hpt)
    (State.noReset_succ (State.noReset_run (k := 1) hr8 ht)) (hans .r7 (by simp))
  have hbyte : ((s.beginStep.readEffect a r).echoAt e .r6).flags.rxData = e.readCell a r := by
    have h6 := EchoEnv.foldl_read_r6 hw ha r
    simpa [State.echoAt, State.traceBefore, Pc.dir] using congrArg (fun x => x.flags.rxData) h6
  exact ⟨u, (run_succ 8 hstep).trans (run_snoc 7 ht hu), hpu, by simpa [hi] using hiu, hau, hbyte ▸ hou,
    by simpa using heu⟩

end

/-- Settles O57: after the acceptance both commands are a transaction with an absent device. -/
theorem echoAbsentDeviceTimesOut : Obligations.EchoAbsentDeviceTimesOut := by
  intro s e a r he hb ha hi hr
  have hlen : 3 + Config.nTimeout.toNat = 2 + Config.nTimeout.toNat + 1 := by omega
  rw [hlen] at hr ⊢
  refine ⟨fun hacc => ?_, fun v hacc => ?_⟩
  · have hstep := step_rdb hacc hi
    rw [run_succ _ hstep]
    exact (State.EchoWaits.of_rdb he a r).absent (.inl (by simp)) hb.1 (by simpa using ha)
      (State.noReset_tail hr (step_host hstep))
  · have hstep := step_wrb hacc hi
    rw [run_succ _ hstep]
    exact (State.EchoWaits.of_wrb he a r v).absent (.inr (by simp)) hb.1 (by simpa using ha)
      (State.noReset_tail hr (step_host hstep))

/-- Settles O56: the write leaves ENV-ECHO with the byte stored and the bus free, the idle steps leave it so, and the
read finds it there. -/
theorem roundTripLaw : Obligations.RoundTripLaw := by
  intro s e a r v m he hw hb ha hacc hi hr hidle hoffer
  obtain ⟨t, ht, hpt, hit, -, hot, het⟩ := run_echo_wrb he hw hb ha hacc hi (State.noReset_mono hr (by omega))
  obtain ⟨hwf, hfree, hpresent, hmem⟩ := EchoEnv.after_write hw ha r v
  have hcell := (EchoEnv.readCell_of_mem hmem a r).trans (EchoEnv.readCell_writeCell hw a r v)
  have hr9 : t.noReset (m + 9) := State.noReset_run (State.noReset_mono hr (by omega)) ht
  obtain ⟨u, hu, hpu, heu, hiu⟩ := run_idle hpt (State.noReset_mono hr9 (by omega)) fun i hi h hh =>
    hidle i hi h (by simpa [run_host ht] using hh)
  have hhu : u.hostNow = { rst := false, cmd := some (encode (.rdb a r)) } :=
    State.hostNow_of_getElem? (by simpa [run_host hu, run_host ht] using hoffer)
  obtain ⟨w, hw9, -, -, -, how, hew⟩ := run_echo_rdb (r := r) (heu.trans het) hwf hfree (hpresent ▸ ha)
    ⟨by rw [hhu], hpu, by rw [hhu]⟩ (hiu.trans hit) (State.noReset_run hr9 hu)
  obtain ⟨-, -, -, hmem'⟩ := EchoEnv.after_read hwf (hpresent ▸ ha) r
  refine ⟨t, w, ht, hot, by rw [het, Env.readCell_echo, hcell], ?_, by rw [how, hcell, resultWord], ?_⟩
  · rw [Nat.add_comm]
    exact (run_add 9 hu).trans hw9
  · rw [hew, Env.readCell_echo, EchoEnv.readCell_of_mem hmem', hcell]

end Sys2Proof.Machine

/-! ## Which words are legal (R62 to R65, R68, R74)

The three patterns of R74 said of the fields of R62, so that R68's list and the word of a command are read off. -/

namespace Sys2Proof

/-! ### The fields of a masked word -/

/-- Two words are the same when their six fields are. -/
theorem Word.eq_iff_fields {w v : Word} :
    w = v ↔ w.rsv1 = v.rsv1 ∧ w.opc = v.opc ∧ w.rsv0 = v.rsv0 ∧ w.addr7 = v.addr7 ∧ w.reg8 = v.reg8 ∧
      w.val8 = v.val8 := by
  refine ⟨fun h => h ▸ ⟨rfl, rfl, rfl, rfl, rfl, rfl⟩, fun ⟨h1, h2, h3, h4, h5, h6⟩ => ?_⟩
  rw [w.eq_packCommand, v.eq_packCommand, h1, h2, h3, h4, h5, h6]

section
variable (w m : Word)
theorem Word.rsv1_and : Word.rsv1 (w &&& m) = w.rsv1 &&& m.rsv1 := BitVec.extractLsb'_and
theorem Word.opc_and : Word.opc (w &&& m) = w.opc &&& m.opc := BitVec.extractLsb'_and
theorem Word.rsv0_and : Word.rsv0 (w &&& m) = w.rsv0 &&& m.rsv0 := BitVec.extractLsb'_and
theorem Word.addr7_and : Word.addr7 (w &&& m) = w.addr7 &&& m.addr7 := BitVec.extractLsb'_and
theorem Word.reg8_and : Word.reg8 (w &&& m) = w.reg8 &&& m.reg8 := BitVec.extractLsb'_and
theorem Word.val8_and : Word.val8 (w &&& m) = w.val8 &&& m.val8 := BitVec.extractLsb'_and
end

/-! ### The patterns of R74 -/

/-- R63: INIT's word has its opcode and nothing else set. -/
theorem eq_initWord_iff {w : Word} :
    w = 0x01000000#32 ↔ w.rsv1 = 0#6 ∧ w.opc = 1#2 ∧ w.extractLsb' 0 24 = 0#24 := by
  simp only [Word.rsv1, Word.opc, ← BitVec.toNat_inj, BitVec.extractLsb'_toNat, BitVec.toNat_ofNat,
    Nat.shiftRight_eq_div_pow]
  omega

/-- R74: both masks keep the reserved bits and the opcode, drop the operands, and differ in what they keep of `VAL8`. -/
theorem matches_opcode_iff {w : Word} (opc : BitVec 2) (keep : Byte) :
    w &&& packCommand (.allOnes 6) (.allOnes 2) (.allOnes 1) 0#7 0#8 keep = packCommand 0#6 opc 0#1 0#7 0#8 0#8 ↔
      w.rsv1 = 0#6 ∧ w.opc = opc ∧ w.rsv0 = 0#1 ∧ w.val8 &&& keep = 0#8 := by
  rw [Word.eq_iff_fields]
  simp only [Word.rsv1_and, Word.opc_and, Word.rsv0_and, Word.addr7_and, Word.reg8_and, Word.val8_and,
    packCommand_rsv1, packCommand_opc, packCommand_rsv0, packCommand_addr7, packCommand_reg8, packCommand_val8,
    BitVec.and_allOnes, BitVec.and_zero, true_and]

/-- R64: WRB's mask keeps nothing of `VAL8`. -/
theorem matches_wrb_iff {w : Word} :
    w &&& 0xFF800000#32 = 0x02000000#32 ↔ w.rsv1 = 0#6 ∧ w.opc = 2#2 ∧ w.rsv0 = 0#1 :=
  (matches_opcode_iff 2#2 0#8).trans (by simp only [BitVec.and_zero, and_true])

/-- R65: RDB's mask keeps all of `VAL8`. -/
theorem matches_rdb_iff {w : Word} :
    w &&& 0xFF8000FF#32 = 0x03000000#32 ↔ w.rsv1 = 0#6 ∧ w.opc = 3#2 ∧ w.rsv0 = 0#1 ∧ w.val8 = 0#8 :=
  (matches_opcode_iff 3#2 (.allOnes 8)).trans (by simp only [BitVec.and_allOnes])

/-! ### The decoder (R68, R74) -/

/-- R74: the four ways the decoder can answer. -/
theorem decode_cases (w : Word) :
    (w = 0x01000000#32 ∧ decode w = .ok .init) ∨
    ((w.rsv1 = 0#6 ∧ w.opc = 2#2 ∧ w.rsv0 = 0#1) ∧ decode w = .ok (.wrb w.addr7 w.reg8 w.val8)) ∨
    ((w.rsv1 = 0#6 ∧ w.opc = 3#2 ∧ w.rsv0 = 0#1 ∧ w.val8 = 0#8) ∧ decode w = .ok (.rdb w.addr7 w.reg8)) ∨
    (w ≠ 0x01000000#32 ∧ ¬(w.rsv1 = 0#6 ∧ w.opc = 2#2 ∧ w.rsv0 = 0#1) ∧
      ¬(w.rsv1 = 0#6 ∧ w.opc = 3#2 ∧ w.rsv0 = 0#1 ∧ w.val8 = 0#8) ∧ decode w = .error (illegalReason w)) := by
  rw [← matches_wrb_iff, ← matches_rdb_iff, decode]
  split
  case isTrue h => exact .inl ⟨h, rfl⟩
  case isFalse h1 =>
    split
    case isTrue h => exact .inr (.inl ⟨h, rfl⟩)
    case isFalse h2 =>
      split
      case isTrue h => exact .inr (.inr (.inl ⟨h, rfl⟩))
      case isFalse h3 => exact .inr (.inr (.inr ⟨h1, h2, h3, rfl⟩))

/-- A legal word's six fields are those its command is packed from. -/
theorem encode_decode {w : Word} {i : Instr} (h : decode w = .ok i) : encode i = w := by
  rcases decode_cases w with ⟨rfl, hd⟩ | ⟨⟨h1, h2, h3⟩, hd⟩ | ⟨⟨h1, h2, h3, h4⟩, hd⟩ | ⟨-, -, -, hd⟩ <;>
    rw [hd] at h <;> cases h
  case inl => decide
  case inr.inl =>
    have hw := w.eq_packCommand
    rw [h1, h2, h3] at hw
    exact hw.symm
  case inr.inr.inl =>
    have hw := w.eq_packCommand
    rw [h1, h2, h3, h4] at hw
    exact hw.symm

/-- R74: the decoder rejects what matches none of the three patterns. -/
theorem decode_error_iff_no_pattern {w : Word} :
    (∃ e, decode w = .error e) ↔
      w ≠ 0x01000000#32 ∧ ¬(w.rsv1 = 0#6 ∧ w.opc = 2#2 ∧ w.rsv0 = 0#1) ∧
        ¬(w.rsv1 = 0#6 ∧ w.opc = 3#2 ∧ w.rsv0 = 0#1 ∧ w.val8 = 0#8) := by
  rcases decode_cases w with ⟨h, hd⟩ | ⟨h, hd⟩ | ⟨h, hd⟩ | ⟨h1, h2, h3, hd⟩ <;> rw [hd]
  · simp [h]
  · simp [h]
  · simp [h]
  · exact ⟨fun _ => ⟨h1, h2, h3⟩, fun _ => ⟨_, rfl⟩⟩

/-- Bit 23 is the highest of an INIT's 24 operand bits. -/
theorem Word.rsv0_of_operand {w : Word} (h : w.extractLsb' 0 24 = 0#24) : w.rsv0 = 0#1 := by
  simp only [Word.rsv0, ← BitVec.toNat_inj, BitVec.extractLsb'_toNat, BitVec.toNat_ofNat,
    Nat.shiftRight_eq_div_pow] at h ⊢
  omega

/-- R68: for each opcode, what makes a word with it illegal. -/
theorem decode_error_iff_illegal {w : Word} :
    (∃ e, decode w = .error e) ↔
      w.rsv1 ≠ 0#6 ∨ w.rsv0 ≠ 0#1 ∨ w.opc = 0#2 ∨ (w.opc = 1#2 ∧ w.extractLsb' 0 24 ≠ 0#24) ∨
        (w.opc = 3#2 ∧ w.val8 ≠ 0#8) := by
  have hopc : ∀ o : BitVec 2, o = 0#2 ∨ o = 1#2 ∨ o = 2#2 ∨ o = 3#2 := by decide
  rw [decode_error_iff_no_pattern, ne_eq, eq_initWord_iff]
  rcases hopc w.opc with ho | ho | ho | ho
  · simp [ho]
  · by_cases hx : w.extractLsb' 0 24 = 0#24
    · simp [ho, hx, Word.rsv0_of_operand hx]
    · simp [ho, hx]
  · simp [ho, imp_iff_not_or]
  · simp [ho, imp_iff_not_or]

/-! ### Assembler lines (R60, R64, R65) -/

theorem AsmLine.assemble_wrb {a r v : Nat} (ha : a < 128) (hr : r < 256) (hv : v < 256) :
    (AsmLine.wrb a r v).assemble = some (.wrb (BitVec.ofNat 7 a) (BitVec.ofNat 8 r) (BitVec.ofNat 8 v)) :=
  if_pos (by simp [wellFormed, addrInRange, regInRange, valInRange, ha, hr, hv])

theorem AsmLine.assemble_rdb {a r : Nat} (ha : a < 128) (hr : r < 256) :
    (AsmLine.rdb a r).assemble = some (.rdb (BitVec.ofNat 7 a) (BitVec.ofNat 8 r)) :=
  if_pos (by simp [wellFormed, addrInRange, regInRange, valInRange, ha, hr])

theorem AsmLine.assemble_of_not_wellFormed {l : AsmLine} (h : l.wellFormed = false) : l.assemble = none :=
  if_neg (by simp [h])

theorem encode_wrb_toNat (a : DevAddr) (r v : Byte) :
    (encode (.wrb a r v)).toNat = 0x02000000 + a.toNat * 2 ^ 16 + r.toNat * 2 ^ 8 + v.toNat := by
  simp [encode, packCommand_toNat]

theorem encode_rdb_toNat (a : DevAddr) (r : Byte) :
    (encode (.rdb a r)).toNat = 0x03000000 + a.toNat * 2 ^ 16 + r.toNat * 2 ^ 8 := by
  simp [encode, packCommand_toNat]

/-! ### The statements about words -/

/-- Settles O2: the opcodes tell the words apart, and the fields give the operands back. -/
theorem decodeEncodeRoundTrip : Obligations.DecodeEncodeRoundTrip :=
  decode_encode

/-- Settles O3: a pattern of R74 fixes every field that is no operand of its command. -/
theorem encodeDecodeRoundTrip : Obligations.EncodeDecodeRoundTrip :=
  fun _ _ h => encode_decode h

/-- Settles O4: a numeral in range is its field's value, and one out of range fails its operand's check. -/
theorem assembledLineHasItsWord : Obligations.AssembledLineHasItsWord := by
  refine ⟨fun a r v ha hr hv => ⟨_, AsmLine.assemble_wrb ha hr hv, ?_⟩, fun a r ha hr =>
    ⟨_, AsmLine.assemble_rdb ha hr, ?_⟩, fun a r v h => AsmLine.assemble_of_not_wellFormed ?_,
    fun a r h => AsmLine.assemble_of_not_wellFormed ?_⟩
  · simp [encode_wrb_toNat, Nat.mod_eq_of_lt, ha, hr, hv]
  · simp [encode_rdb_toNat, Nat.mod_eq_of_lt, ha, hr]
  · simpa [AsmLine.wellFormed, AsmLine.addrInRange, AsmLine.regInRange, AsmLine.valInRange, imp_iff_not_or,
      or_assoc] using h
  · simpa [AsmLine.wellFormed, AsmLine.addrInRange, AsmLine.regInRange, AsmLine.valInRange, imp_iff_not_or] using h

/-- Settles O1: five words of the vectors and one for each of four reasons of R68, run through the decoder. -/
theorem sampleWordsDecode : Obligations.SampleWordsDecode := by
  refine ⟨?_, ?_, ?_, ?_, ?_, ?_, ?_, ?_, ?_⟩ <;> decide

end Sys2Proof

/-! ## When a word is accepted, and what an illegal one does (R61, R120) -/

namespace Sys2Proof.Machine

/-- R120: a refusal writes nothing but the response. -/
theorem State.isRefused_raiseRefused (s : State) (why : RefuseReason) : s.IsRefused (s.raiseRefused why) := by
  refine { core := ?_, env := rfl, actions := rfl, diag := rfl, rsp := rfl }
  constructor <;> rfl

/-- Settles O5: R68's list is the complement of the three patterns, and accepting an illegal word is a refusal. -/
theorem illegalWordsAreRefused : Obligations.IllegalWordsAreRefused :=
  ⟨fun _ => decode_error_iff_illegal, ⟨.opcReserved, by decide⟩, ⟨.rsv1NotZero, by decide⟩,
    fun s _ _ ⟨hr, hp, hc⟩ hd => ⟨_, step_illegal hr hp hc hd, s.beginStep.isRefused_raiseRefused _⟩⟩

theorem State.cmdReady_iff {s : State} : s.cmdReady = true ↔ s.pc = .idle ∧ s.hostNow.rst = false := by
  simp [State.cmdReady]

/-- The host's input is gone once the step has begun. -/
theorem State.beginStep_setHost_cons {s : State} {i : HostInput} {rest : List HostInput} (h : s.host = i :: rest)
    (i' : HostInput) : (s.setHost (i' :: rest)).beginStep = s.beginStep := by
  simp [State.beginStep, h, State.setHost]

/-- Settles O7: outside readiness a step is the reset step or a poll, and neither looks at the offered word. -/
theorem commandAcceptedOnlyWhenReady : Obligations.CommandAcceptedOnlyWhenReady := by
  refine ⟨fun _ => State.cmdReady_iff, fun s w i hready hc hd => ?_, fun s w e hready hc hd => ?_,
    fun s r c c' rest hh hready => ?_⟩
  · obtain ⟨hp, hr⟩ := State.cmdReady_iff.1 hready
    exact (step_command hr hp hc hd).trans (exec_idle i (s := s.beginStep) hp).symm
  · obtain ⟨hp, hr⟩ := State.cmdReady_iff.1 hready
    exact ⟨_, step_illegal hr hp hc hd, s.beginStep.isRefused_raiseRefused _⟩
  · have hnow : s.hostNow.rst = r := by rw [State.hostNow, hh]
    have hnow' : (s.setHost ({ rst := r, cmd := c' } :: rest)).hostNow.rst = r := rfl
    have hbegin := State.beginStep_setHost_cons hh { rst := r, cmd := c' }
    cases r with
    | true => rw [step_reset hnow, step_reset hnow', hbegin]
    | false =>
      have hp : s.pc ≠ .idle := fun hp => by simp [State.cmdReady_iff.2 ⟨hp, hnow⟩] at hready
      rw [step_poll hnow hp, step_poll hnow' hp, hbegin]

/-- Settles O46: appending a bit doubles the value, and the byte's two fields are its parts. -/
theorem addressByteLayout : Obligations.AddressByteLayout := by
  refine fun a d => ⟨?_, addressByteDev_addressByte a d, addressByteDir_addressByte a d⟩
  rw [addressByte, BitVec.toNat_append, ← Nat.shiftLeft_add_eq_or_of_lt d.bit.isLt, Nat.shiftLeft_eq]
  cases d <;> simp [Dir.bit]

end Sys2Proof.Machine

/-! ## The response and the diagnostic of a step (R66, R67, R69) -/

namespace Sys2Proof.Machine

theorem Status.code_ne_three (st : Status) : st.code ≠ 3#2 := by
  cases st <;> decide

/-- R72: a returned word is a byte. -/
theorem resultWord_toNat_lt (b : Byte) : (resultWord b).toNat < 256 := by
  rw [resultWord, BitVec.toNat_setWidth_of_le (by decide)]
  exact b.isLt

theorem State.exitWait_rsp (s : State) (f : FlagSample) : (s.exitWait f).out.rsp = s.exitRsp := by
  rw [State.exitWait_out]

/-- R69: no exit gives a diagnostic. -/
theorem State.exitWait_diag (s : State) (f : FlagSample) : (s.exitWait f).out.diag = s.out.diag := by
  rw [State.exitWait_out]

/-- An exit into another wait answers nothing. -/
theorem State.exitRsp_of_next_wait {s : State} (h : s.pc.next ≠ .idle) : s.exitRsp = s.out.rsp := by
  cases hp : s.pc <;> simp [State.exitRsp, hp, Pc.next] at h ⊢

/-- R104, R113: the last exit of a transaction answers OK, a read with its byte. -/
theorem State.exitRsp_of_next_idle {s : State} (hp : s.pc ≠ .idle) (h : s.pc.next = .idle) :
    s.exitRsp =
      some { data := if s.pc = .r7 then resultWord s.res else 0#32, status := .ok, phase := 0#3 } := by
  cases hq : s.pc <;> simp [State.exitRsp, hq, Pc.next] at hp h ⊢

@[simp] theorem afterCommand_diag (i : Instr) (s : State) : (afterCommand i s).out.diag = s.out.diag := by
  cases i <;> cases hi : s.initd <;> simp [afterCommand, hi]

/-- R66: an accepted command answers in its acceptance step, OK or REFUSED, exactly if it begins no transaction. -/
theorem afterCommand_rsp (i : Instr) {s : State} (hp : s.pc = .idle) :
    ((afterCommand i s).pc ≠ .idle ∧ (afterCommand i s).out.rsp = s.out.rsp) ∨
    ((afterCommand i s).pc = .idle ∧ ∃ st, st ≠ .timeout ∧
      (afterCommand i s).out.rsp = some { data := 0#32, status := st, phase := 0#3 }) := by
  cases i <;> cases hi : s.initd <;> simp [afterCommand, hi, hp]

/-- What a step answers: nothing, or the one response with which a command ends (R66, R67), with a diagnostic exactly
where it ends by a timeout (R69). -/
inductive StepAnswer (s t : State) : Prop
  /-- No command ends: a reset, the idle step, or a wait entered or kept. -/
  | silent (rsp : t.out.rsp = none) (diag : t.out.diag = none)
      (quiet : s.hostNow.rst = true ∨ (s.pc = .idle ∧ s.hostNow.cmd = none) ∨ t.pc ≠ .idle)
  /-- A command ends in its acceptance step: INIT, or a refusal (R93, R120). -/
  | acceptance (rst : s.hostNow.rst = false) (pc : s.pc = .idle) (cmd : s.hostNow.cmd.isSome = true)
      (done : t.pc = .idle) (diag : t.out.diag = none) (st : Status) (good : st ≠ .timeout)
      (rsp : t.out.rsp = some { data := 0#32, status := st, phase := 0#3 })
  /-- A transaction ends well (R104, R113). -/
  | finish (rst : s.hostNow.rst = false) (pc : s.pc ≠ .idle) (cond : waitCond s.pc s.sample = true)
      (done : t.pc = .idle) (diag : t.out.diag = none)
      (rsp : t.out.rsp =
        some { data := if s.pc = .r7 then resultWord s.res else 0#32, status := .ok, phase := 0#3 })
  /-- A transaction ends by a timeout (R124). -/
  | timeout (rst : s.hostNow.rst = false) (pc : s.pc ≠ .idle) (cond : waitCond s.pc s.sample = false)
      (cnt : s.cnt = 1#32) (done : t.pc = .idle)
      (diag : t.out.diag = some { dir := s.pc.dir, phase := s.pc.ph })
      (rsp : t.out.rsp = some { data := 0#32, status := .timeout, phase := s.pc.ph })

/-- What the poll of a wait answers (R82, R83). -/
theorem stepAnswer_of_poll {s : State} (hr : s.hostNow.rst = false) (hp : s.pc ≠ .idle) :
    StepAnswer s s.beginStep.poll := by
  rcases poll_cases s.beginStep with ⟨hc, h⟩ | ⟨hc, h1, h⟩ | ⟨hc, h1, h⟩ <;> rw [h]
  · by_cases hn : s.pc.next = .idle
    · exact .finish hr hp hc (by simpa using hn) (State.exitWait_diag _ _)
        ((State.exitWait_rsp _ _).trans (State.exitRsp_of_next_idle (s := s.beginStep.sampled) hp hn))
    · exact .silent ((State.exitWait_rsp _ _).trans (State.exitRsp_of_next_wait (s := s.beginStep.sampled) hn))
        (State.exitWait_diag _ _) (.inr (.inr (by simpa using hn)))
  · exact .timeout hr hp hc h1 rfl rfl rfl
  · exact .silent rfl rfl (.inr (.inr hp))

/-- Every step answers in one of the four ways, by the five cases of R80. -/
theorem step_answer {s t : State} (h : step s = .next t) : StepAnswer s t := by
  rcases step_cases h with ⟨hr, rfl⟩ | ⟨hr, hp, hc, rfl⟩ | ⟨hr, hp, w, i, hc, -, rfl⟩ |
    ⟨hr, hp, w, e, hc, -, rfl⟩ | ⟨hr, hp, rfl⟩
  · exact .silent rfl rfl (.inl hr)
  · exact .silent rfl rfl (.inr (.inl ⟨hp, hc⟩))
  · have hdiag := afterCommand_diag i s.beginStep
    rcases afterCommand_rsp i (s := s.beginStep) hp with ⟨hn, hrsp⟩ | ⟨hn, st, hst, hrsp⟩
    · exact .silent hrsp hdiag (.inr (.inr hn))
    · exact .acceptance hr hp (by simp [hc]) hn hdiag st hst hrsp
  · exact .acceptance hr hp (by simp [hc]) hp rfl .refused (by decide) rfl
  · exact stepAnswer_of_poll hr hp

/-- Settles O42: of the four answers the three with a response are the steps in which a command ends. -/
theorem responseExactlyWhenCommandEnds : Obligations.ResponseExactlyWhenCommandEnds := by
  intro s t h
  cases step_answer h with
  | silent rsp diag quiet =>
    rcases quiet with hr | ⟨hp, hc⟩ | hn
    · simp [rsp, hr]
    · simp [rsp, hp, hc]
    · simp [rsp, hn]
  | acceptance rst pc cmd done diag st good rsp => simp [rsp, rst, cmd, done]
  | finish rst pc cond done diag rsp => simp [rsp, rst, pc, done]
  | timeout rst pc cond cnt done diag rsp => simp [rsp, rst, pc, done]

/-- Settles O43: each clause read off the response of its kind of end. -/
theorem responseCodes : Obligations.ResponseCodes := by
  intro s t r h hr
  cases step_answer h with
  | silent rsp diag quiet => simp [rsp] at hr
  | acceptance rst pc cmd done diag st good rsp =>
    obtain rfl := Option.some.inj (rsp.symm.trans hr)
    simp [good, pc, st.code_ne_three]
  | finish rst pc cond done diag rsp =>
    obtain rfl := Option.some.inj (rsp.symm.trans hr)
    refine ⟨?_, nofun, nofun, fun _ => ⟨rfl, rfl⟩, Status.code_ne_three _⟩
    split
    · exact resultWord_toNat_lt s.res
    · decide
  | timeout rst pc cond cnt done diag rsp =>
    obtain rfl := Option.some.inj (rsp.symm.trans hr)
    simp [pc, Status.code]

/-- Settles O44: only the timeout gives a diagnostic, and the timeout condition leads to no other answer. -/
theorem diagnosticExactlyAtTimeout : Obligations.DiagnosticExactlyAtTimeout := by
  intro s t h
  have htimeout : s.hostNow.rst = false ∧ s.pc ≠ .idle ∧ waitCond s.pc s.sample = false ∧ s.cnt = 1#32 →
      t.out.diag.isSome = true := by
    rintro ⟨hr, hp, hc, h1⟩
    rw [step_unique h (step_timeout hr hp hc h1)]
    rfl
  cases step_answer h with
  | silent rsp diag quiet => exact ⟨⟨by simp [diag], htimeout⟩, by simp [diag], by simp [diag, rsp]⟩
  | acceptance rst pc cmd done diag st good rsp =>
    exact ⟨⟨by simp [diag], htimeout⟩, by simp [diag], by simp [diag, rsp, good]⟩
  | finish rst pc cond done diag rsp => exact ⟨⟨by simp [diag], htimeout⟩, by simp [diag], by simp [diag, rsp]⟩
  | timeout rst pc cond cnt done diag rsp => simp [rst, pc, cond, cnt, diag, rsp]

end Sys2Proof.Machine

/-! ## The kinds of step (R80, R89, R92) -/

namespace Sys2Proof.Machine

/-- Settles O8: each of the five cases of R80 names its next state. -/
theorem everyStepAnswersNext : Obligations.EveryStepAnswersNext :=
  exists_step

/-- Starting a step writes no register (R30). -/
theorem State.sameCore_beginStep (s : State) : s.SameCore s.beginStep := by
  constructor <;> simp

/-- Settles O13: the idle step only takes the host's input off and clears the last step's outputs. -/
theorem idleStepChangesNothing : Obligations.IdleStepChangesNothing := by
  intro s hr hp hc
  exact ⟨s.beginStep, step_idle hr hp hc, s.sameCore_beginStep, by simp⟩

/-- Settles O6: the acceptance of a legal word is case 3 of R80, where the command is run. -/
theorem stepRunsDecodedInstruction : Obligations.StepRunsDecodedInstruction := by
  intro s w i ⟨hr, hp, hc⟩ hd
  exact ⟨(step_command hr hp hc hd).trans (exec_idle i (s := s.beginStep) hp).symm, s.sameCore_beginStep, by simp⟩

/-! ### The flag monitor (R82, R86) -/

/-- Of its sample an exit uses `rx_data` only, and only in `R6` (R103). -/
theorem State.exitWait_congr {s : State} {f g : FlagSample} (h : s.pc = .r6 → f.rxData = g.rxData) :
    s.exitWait f = s.exitWait g := by
  cases hp : s.pc
  case r6 => simp only [State.exitWait, hp, State.exitR6, h hp]
  all_goals simp only [State.exitWait, hp]

/-- R86 (b): a poll looks at the awaited condition, and beyond it only at what the exit uses. -/
theorem State.pollOn_congr {s : State} {f g : FlagSample} (hc : waitCond s.pc f = waitCond s.pc g)
    (h : s.pc = .r6 → f.rxData = g.rxData) : s.pollOn f = s.pollOn g := by
  rw [State.pollOn, State.pollOn, hc, State.exitWait_congr h]

/-- R41: with a listed sample next, an active step is a poll on that sample, and the sample is gone after it. -/
theorem step_poll_listed {s : State} (hr : s.hostNow.rst = false) (hp : s.pc ≠ .idle) (f : FlagSample)
    (rest : List FlagSample) :
    step (s.setEnv (.oracle (f :: rest))) =
      .next (((s.setEnv (.oracle rest)).beginStep.setDraws (s.draws + 1)).pollOn f) :=
  step_poll (s := s.setEnv (.oracle (f :: rest))) hr hp

/-- Settles O41: once the sample is taken the two states are the same, and the poll agrees on the two samples. -/
theorem flagMonitorLooksAtOneFlag : Obligations.FlagMonitorLooksAtOneFlag := by
  intro s f g rest hr hp hc hrx
  rw [step_poll_listed hr hp, step_poll_listed hr hp]
  exact congrArg _ (State.pollOn_congr (by simpa using hc) (by simpa using hrx))

end Sys2Proof.Machine

/-! ## The timeout counter (R83 to R85, R124) -/

namespace Sys2Proof.Machine

/-- R124, R125: a timeout writes `pc` and the outputs and nothing else of the CORE. -/
theorem State.timesOut_raiseTimeout (s : State) :
    s.TimesOut s.beginStep.sampled.raiseTimeout s.pc.dir s.pc.ph := by
  constructor <;> simp [Outputs.none]

/-- Settles O30: the two kinds of failing poll, and R32's lower bound on `CNT`. -/
theorem failingPollSpendsTheBudget : Obligations.FailingPollSpendsTheBudget := by
  intro s hr hp hc
  have hpos : s.Reachable → s.cnt ≠ 0#32 := fun h h0 => by simpa [h0] using h.active_cnt_pos hp
  by_cases h1 : s.cnt = 1#32
  · exact ⟨_, step_timeout hr hp hc h1, fun _ => s.timesOut_raiseTimeout, fun hne => absurd h1 hne, hpos⟩
  · refine ⟨_, step_pollFail hr hp hc h1, fun h => absurd h h1, fun _ => ?_, hpos⟩
    have hlatches : s.SameLatches (s.beginStep.sampled.setCnt (s.cnt - 1#32)) := by constructor <;> simp
    simp [hlatches]

/-- A command that begins no transaction leaves `CNT` alone (R26). -/
theorem afterCommand_cnt_of_idle {i : Instr} {s : State} (h : (afterCommand i s).pc = .idle) :
    (afterCommand i s).cnt = s.cnt := by
  cases i <;> cases hi : s.initd <;> simp [afterCommand, hi] at h ⊢

/-- R84: what a step without `rst` does to `CNT`: it enters a wait, it is a failing poll that does not time out, or it
ends in the idle state with `CNT` as it was. -/
theorem step_cnt {s t : State} (h : step s = .next t) (hr : s.hostNow.rst = false) :
    (t.pc ≠ .idle ∧ t.pc ≠ s.pc ∧ t.cnt = Config.nTimeout) ∨
    (s.pc ≠ .idle ∧ t.pc = s.pc ∧ waitCond s.pc s.sample = false ∧ s.cnt ≠ 1#32 ∧ t.cnt = s.cnt - 1#32) ∨
    (t.pc = .idle ∧ t.cnt = s.cnt) := by
  rcases step_cases h with ⟨hr', -⟩ | ⟨-, hp, -, rfl⟩ | ⟨-, hp, w, i, -, -, rfl⟩ | ⟨-, hp, w, e, -, -, rfl⟩ |
    ⟨-, hp, rfl⟩
  · simp [hr] at hr'
  · exact .inr (.inr ⟨hp, rfl⟩)
  · by_cases hn : (afterCommand i s.beginStep).pc = .idle
    · exact .inr (.inr ⟨hn, afterCommand_cnt_of_idle hn⟩)
    · have hne : (afterCommand i s.beginStep).pc ≠ s.beginStep.pc := fun hx => hn (hx.trans hp)
      exact .inl ⟨hn, hne, afterCommand_cnt i s.beginStep hne⟩
  · exact .inr (.inr ⟨hp, rfl⟩)
  · rcases poll_cases s.beginStep with ⟨hc, hx⟩ | ⟨hc, h1, hx⟩ | ⟨hc, h1, hx⟩ <;> rw [hx]
    · by_cases hn : s.pc.next = .idle
      · exact .inr (.inr ⟨by simp [hn], by simp [State.exitWait_cnt, hn]⟩)
      · exact .inl ⟨by simpa using hn, by simpa using Pc.next_ne_self hp, by simp [State.exitWait_cnt, hn]⟩
    · exact .inr (.inr (by simp))
    · exact .inr (.inl ⟨hp, rfl, hc, h1, rfl⟩)

/-- Settles O31: the three ways of a step with `CNT`, the flag looked at before the counter, and R32's bounds. -/
theorem timeoutCounterLaws : Obligations.TimeoutCounterLaws := by
  intro s t h hr
  refine ⟨fun hn hne => ?_, fun hne => ?_, fun hp hc => ?_, fun hreach hn => ?_⟩
  · rcases step_cnt h hr with ⟨-, -, hcnt⟩ | ⟨-, hpc, -⟩ | ⟨hidle, -⟩
    · exact hcnt
    · exact absurd hpc hne
    · exact absurd hidle hn
  · rcases step_cnt h hr with ⟨hn, hpc, -⟩ | hfail | ⟨-, hcnt⟩
    · exact .inl ⟨hn, hpc⟩
    · exact .inr hfail
    · exact absurd hcnt hne
  · rw [step_unique h (step_exit hr hp hc)]
    exact ⟨State.exitWait_pc _ _, State.exitWait_diag _ _⟩
  · have ht := hreach.step h
    exact ⟨ht.active_cnt_pos hn, ht.active_cnt_le hn⟩

/-! ### The exactly-N law (R85) -/

/-- The first `n` steps from the wait `s` is in are polls with a false sample. -/
def State.FailingPolls (s : State) (n : Nat) : Prop :=
  ∀ k, k < n → ∀ u : State, Host.Core.run core k s = .next u →
    u.hostNow.rst = false ∧ waitCond s.pc u.sample = false

theorem State.FailingPolls.mono {s : State} {j n : Nat} (h : s.FailingPolls n) (hj : j ≤ n) : s.FailingPolls j :=
  fun k hk => h k (by omega)

/-- R83 repeated: failing polls that do not use the budget up keep the wait and count `CNT` down by one each. -/
theorem State.FailingPolls.run {s : State} {j : Nat} (h : s.FailingPolls j) (hp : s.pc ≠ .idle)
    (hj : j < s.cnt.toNat) :
    ∃ u : State, Host.Core.run core j s = .next u ∧ u.pc = s.pc ∧ u.cnt.toNat = s.cnt.toNat - j := by
  induction j with
  | zero => exact ⟨s, rfl, rfl, rfl⟩
  | succ j ih =>
    obtain ⟨u, hu, hpu, hcu⟩ := ih (h.mono (by omega)) (by omega)
    obtain ⟨hr, hc⟩ := h j (by omega) u hu
    have h1 : u.cnt ≠ 1#32 := fun hx => by simp [hx] at hcu; omega
    refine ⟨_, run_snoc j hu (step_pollFail hr (hpu ▸ hp) (hpu ▸ hc) h1), by simpa using hpu, ?_⟩
    rw [State.setCnt_cnt]
    bv_omega

/-- Settles O32: failing polls count down to the last one of the budget, which times out; a true sample before that
leaves the wait. -/
theorem waitTakesAtMostItsBudget : Obligations.WaitTakesAtMostItsBudget := by
  refine ⟨fun s n hn hp hcnt hfail => ⟨fun k hk => ?_, ?_⟩, fun s n j hp hcnt hj hfail hexit => ?_⟩
  · exact hcnt ▸ State.FailingPolls.run (State.FailingPolls.mono hfail hk.le) hp (by omega)
  · obtain ⟨m, rfl⟩ : ∃ m, n = m + 1 := ⟨n - 1, by omega⟩
    obtain ⟨u, hu, hpu, hcu⟩ := State.FailingPolls.run (State.FailingPolls.mono hfail m.le_succ) hp (by omega)
    obtain ⟨hr, hc⟩ := hfail m (by omega) u hu
    have h1 : u.cnt = 1#32 := BitVec.eq_of_toNat_eq (hcu.trans (by simp [hcnt]))
    have hout := u.timesOut_raiseTimeout
    exact ⟨_, run_snoc m hu (step_timeout hr (hpu ▸ hp) (hpu ▸ hc) h1), hout.pc, hpu ▸ hout.out⟩
  · obtain ⟨u, hu, hpu, hcu⟩ := State.FailingPolls.run hfail hp (by omega)
    obtain ⟨hr, hc⟩ := hexit u hu
    refine ⟨u, _, hu, hpu, hcnt ▸ hcu, run_snoc j hu (step_exit hr (hpu ▸ hp) (hpu ▸ hc)), ?_, ?_⟩
    · rw [State.exitWait_pc]
      exact congrArg Pc.next hpu
    · exact State.exitWait_diag _ _

end Sys2Proof.Machine

/-! ## Every transaction answers within its bound (R92)

Every poll that ends no transaction takes one off the polls that the waits still to come allow. -/

namespace Sys2Proof.Machine

/-- How many waits a transaction has from `p` to its end, `p` included (R21). -/
def Pc.waitsLeft : Pc → Nat
  | .idle => 0
  | .w0 => 5
  | .w1 => 4
  | .w2 => 3
  | .w3 => 2
  | .w4 => 1
  | .r0 => 8
  | .r1 => 7
  | .r2 => 6
  | .r3 => 5
  | .r4 => 4
  | .r5 => 3
  | .r6 => 2
  | .r7 => 1

theorem Pc.waitsLeft_eq {p : Pc} (hp : p ≠ .idle) : p.waitsLeft = p.next.waitsLeft + 1 := by
  cases p <;> simp [Pc.waitsLeft, Pc.next] at hp ⊢

/-- How many polls a transaction has left at most: those of the current wait, and the budgets of the later ones. -/
def State.pollsLeft (s : State) : Nat := s.cnt.toNat + s.pc.next.waitsLeft * Config.nTimeout.toNat

/-- From `s` a command ends after at most `m` steps, with the one response of these steps, an OK one after at least `l`
(R92). -/
def State.AnswersWithin (s : State) (m l : Nat) : Prop :=
  ∃ (k : Nat) (t : State) (rsp : Response), k ≤ m ∧ Host.Core.run core k s = .next t ∧ t.pc = .idle ∧
    t.out.rsp = some rsp ∧ (rsp.status = .ok → l ≤ k) ∧
    ∀ j, 1 ≤ j → j < k → ∃ u : State, Host.Core.run core j s = .next u ∧ u.pc ≠ .idle ∧ u.out.rsp = none

namespace State.AnswersWithin

variable {s t : State} {m l : Nat}

theorem mono {m' l' : Nat} (h : s.AnswersWithin m l) (hm : m ≤ m') (hl : l' ≤ l) : s.AnswersWithin m' l' := by
  obtain ⟨k, t, rsp, hk, hrun, hp, hrsp, hok, hbusy⟩ := h
  exact ⟨k, t, rsp, hk.trans hm, hrun, hp, hrsp, fun h => hl.trans (hok h), hbusy⟩

/-- The step in which the command ends. -/
theorem of_last {rsp : Response} (h : Machine.step s = .next t) (hp : t.pc = .idle) (hrsp : t.out.rsp = some rsp)
    (hok : rsp.status = .ok → l ≤ 1) : s.AnswersWithin 1 l :=
  ⟨1, t, rsp, le_rfl, run_succ 0 h, hp, hrsp, hok, fun j h1 hj => by omega⟩

/-- A step into or within a wait, which answers nothing, before the others. -/
theorem of_step (h : Machine.step s = .next t) (hp : t.pc ≠ .idle) (hrsp : t.out.rsp = none)
    (ht : t.AnswersWithin m l) : s.AnswersWithin (1 + m) (1 + l) := by
  obtain ⟨k, u, rsp, hk, hrun, hpu, hru, hok, hbusy⟩ := ht
  refine ⟨k + 1, u, rsp, by omega, (run_succ k h).trans hrun, hpu, hru, fun hx => ?_, fun j h1 hj => ?_⟩
  · have := hok hx
    omega
  · obtain ⟨i, rfl⟩ : ∃ i, j = i + 1 := ⟨j - 1, by omega⟩
    rw [run_succ i h]
    cases i with
    | zero => exact ⟨t, rfl, hp, hrsp⟩
    | succ i => exact hbusy (i + 1) (by omega) (by omega)

end State.AnswersWithin

/-- A poll after which the transaction is still in a wait uses one of the polls left, and ends one wait at most. -/
theorem step_pollsLeft {s t : State} (h : step s = .next t) (hr : s.hostNow.rst = false) (hp : s.pc ≠ .idle)
    (hcnt : 1 ≤ s.cnt.toNat) (hn : t.pc ≠ .idle) :
    1 ≤ t.cnt.toNat ∧ t.pollsLeft + 1 ≤ s.pollsLeft ∧ s.pc.waitsLeft ≤ 1 + t.pc.waitsLeft := by
  rcases step_cnt h hr with ⟨-, hne, htc⟩ | ⟨-, hpc, -, h1, htc⟩ | ⟨hidle, -⟩
  case inl =>
    have hpc : t.pc = s.pc.next := by
      rcases step_pc_of_wait h hp with hx | hx | hx
      · exact absurd hx hn
      · exact absurd hx hne
      · exact hx
    have hw := Pc.waitsLeft_eq hp
    have hw' := Pc.waitsLeft_eq (hpc ▸ hn)
    refine ⟨htc ▸ Config.nTimeout_pos, ?_, by rw [hpc]; omega⟩
    rw [State.pollsLeft, State.pollsLeft, htc, hpc, hw', Nat.succ_mul]
    omega
  case inr.inl =>
    have htn : t.cnt.toNat + 1 = s.cnt.toNat := by bv_omega
    have hne1 : s.cnt.toNat ≠ 1 := fun hx => h1 (BitVec.eq_of_toNat_eq hx)
    refine ⟨by omega, ?_, by rw [hpc]; omega⟩
    rw [State.pollsLeft, State.pollsLeft, hpc]
    omega
  case inr.inr => exact absurd hidle hn

/-- R92: without `rst` a transaction ends within the polls it has left, and an OK answer ends every wait on its way. -/
theorem answersWithin_of_wait {s : State} {m : Nat} (hp : s.pc ≠ .idle) (hcnt : 1 ≤ s.cnt.toNat)
    (hm : s.pollsLeft ≤ m) (hr : s.noReset m) : s.AnswersWithin m s.pc.waitsLeft := by
  induction m generalizing s with
  | zero => simp [State.pollsLeft] at hm; omega
  | succ m ih =>
    have hr0 := State.noReset_succ hr
    obtain ⟨t, h⟩ := exists_step s
    cases step_answer h with
    | silent rsp diag quiet =>
      have hn : t.pc ≠ .idle := by simpa [hr0, hp] using quiet
      obtain ⟨hct, hmt, hwt⟩ := step_pollsLeft h hr0 hp hcnt hn
      have ht := ih hn hct (by omega) (State.noReset_tail hr (step_host h))
      exact (State.AnswersWithin.of_step h hn rsp ht).mono (by omega) hwt
    | acceptance rst pc cmd done diag st good rsp => exact absurd pc hp
    | finish rst pc cond done diag rsp =>
      have hnext : s.pc.next = .idle := by
        rw [← done, step_unique h (step_exit rst pc cond), State.exitWait_pc]
        rfl
      have hw : s.pc.waitsLeft = 1 := by rw [Pc.waitsLeft_eq hp, hnext]; rfl
      exact (State.AnswersWithin.of_last h done rsp fun _ => hw.le).mono (by omega) le_rfl
    | timeout rst pc cond cnt done diag rsp =>
      exact (State.AnswersWithin.of_last h done rsp nofun).mono (by omega) le_rfl

/-- A transaction that is accepted and enters its first wait answers within its waits' budgets and one step. -/
theorem answersWithin_of_acceptance {s t : State} (h : step s = .next t) (hp : t.pc ≠ .idle)
    (hcnt : t.cnt = Config.nTimeout) (hrsp : t.out.rsp = none)
    (hr : s.noReset (1 + t.pc.waitsLeft * Config.nTimeout.toNat)) :
    s.AnswersWithin (1 + t.pc.waitsLeft * Config.nTimeout.toNat) (1 + t.pc.waitsLeft) := by
  have hm : t.pollsLeft ≤ t.pc.waitsLeft * Config.nTimeout.toNat := by
    rw [State.pollsLeft, hcnt, Pc.waitsLeft_eq hp, Nat.succ_mul, Nat.add_comm]
  rw [Nat.add_comm] at hr
  exact .of_step h hp hrsp
    (answersWithin_of_wait hp (hcnt ▸ Config.nTimeout_pos) hm (State.noReset_tail hr (step_host h)))

/-- Settles O33: both commands enter the first of their waits, eight or five, in their acceptance step. -/
theorem commandsAnswerWithinTheirBound : Obligations.CommandsAnswerWithinTheirBound :=
  ⟨fun s a r hacc hi hr =>
    answersWithin_of_acceptance (t := s.beginStep.readEffect a r) (step_rdb hacc hi) (by simp) (by simp) rfl hr,
  fun s a r v hacc hi hr =>
    answersWithin_of_acceptance (t := s.beginStep.writeEffect a r v) (step_wrb hacc hi) (by simp) (by simp) rfl hr⟩

end Sys2Proof.Machine

/-! ## INIT (R93 to R95) -/

namespace Sys2Proof.Machine

/-- R93: the first INIT is carried out in its acceptance step. -/
theorem exec_init {s : State} (hp : s.pc = .idle) (hi : s.initd = false) : exec .init s = .next s.initEffect := by
  simp [exec_idle .init hp, afterCommand, hi]

/-- R94: a repeated INIT is refused. -/
theorem exec_init_repeated {s : State} (hp : s.pc = .idle) (hi : s.initd = true) :
    exec .init s = .next (s.raiseRefused .initRepeated) := by
  simp [exec_idle .init hp, afterCommand, hi]

/-- What INIT can answer in any state: it is carried out, refused because repeated, or not accepted (R61, R93, R94). -/
theorem exec_init_cases {s t : State} (h : exec .init s = .next t) :
    (s.pc = .idle ∧ s.initd = false ∧ t = s.initEffect) ∨
    (s.pc = .idle ∧ s.initd = true ∧ t = s.raiseRefused .initRepeated) ∨
    (s.pc ≠ .idle ∧ t = s) := by
  have answer : ∀ {u : State}, exec .init s = .next u → t = u :=
    fun hu => Host.Outcome.next.inj (h.symm.trans hu)
  by_cases hp : s.pc = .idle
  · cases hi : s.initd with
    | false => exact .inl ⟨hp, rfl, answer (exec_init hp hi)⟩
    | true => exact .inr (.inl ⟨hp, rfl, answer (exec_init_repeated hp hi)⟩)
  · exact .inr (.inr ⟨hp, answer (exec_busy .init hp)⟩)

/-- R93: carrying INIT out writes none of the four latches. -/
theorem State.sameLatches_initEffect (s : State) : s.SameLatches s.initEffect := by
  constructor <;> simp

/-- Settles O19: the device registers stay because `CONFIGURE`, the one action of INIT, stores nothing. -/
theorem initFrame : Obligations.InitFrame := by
  intro s t h
  rcases exec_init_cases h with ⟨-, -, rfl⟩ | ⟨-, -, rfl⟩ | ⟨-, rfl⟩
  · exact ⟨rfl, rfl, s.sameLatches_initEffect, rfl, rfl, fun d r => Env.readCell_onConfigure s.env d r⟩
  · exact ⟨rfl, rfl, ⟨rfl, rfl, rfl, rfl⟩, rfl, rfl, fun _ _ => rfl⟩
  · exact ⟨rfl, rfl, ⟨rfl, rfl, rfl, rfl⟩, rfl, rfl, fun _ _ => rfl⟩

/-- Settles O14: in the idle state `INITD` alone decides between INIT's effect and the refusal. -/
theorem initCompletes : Obligations.InitCompletes := by
  refine ⟨fun s hp hi => ⟨s.initEffect, exec_init hp hi, ?_⟩, fun s hp hi =>
    ⟨_, exec_init_repeated hp hi, s.isRefused_raiseRefused _⟩⟩
  simp [hp, s.sameLatches_initEffect]

/-- Settles O18: an INIT that is carried out emits `CONFIGURE`, any other emits nothing. -/
theorem initDoesNotTouchTheBus : Obligations.InitDoesNotTouchTheBus := by
  intro s t h
  rcases exec_init_cases h with ⟨-, -, rfl⟩ | ⟨-, -, rfl⟩ | ⟨-, rfl⟩
  · exact .inr (by rw [State.initEffect_out])
  · exact .inl (s.isRefused_raiseRefused _).actions
  · exact .inl rfl

end Sys2Proof.Machine

/-! ## RDB's acceptance (R96) -/

namespace Sys2Proof.Machine

/-- R96: after INIT an RDB begins its transaction in the acceptance step. -/
theorem exec_rdb {s : State} (hp : s.pc = .idle) (hi : s.initd = true) (a : DevAddr) (r : Byte) :
    exec (.rdb a r) s = .next (s.readEffect a r) := by
  simp [exec_idle _ hp, afterCommand, hi]

/-- R120: before INIT an RDB is refused. -/
theorem exec_rdb_uninit {s : State} (hp : s.pc = .idle) (hi : s.initd = false) (a : DevAddr) (r : Byte) :
    exec (.rdb a r) s = .next (s.raiseRefused .notInitialized) := by
  simp [exec_idle _ hp, afterCommand, hi]

/-- What RDB can answer in any state: its transaction begins, it is refused, or it is not accepted (R61, R96, R120). -/
theorem exec_rdb_cases {s t : State} {a : DevAddr} {r : Byte} (h : exec (.rdb a r) s = .next t) :
    t = s.readEffect a r ∨ t = s.raiseRefused .notInitialized ∨ t = s := by
  have answer : ∀ {u : State}, exec (.rdb a r) s = .next u → t = u :=
    fun hu => Host.Outcome.next.inj (h.symm.trans hu)
  by_cases hp : s.pc = .idle
  · cases hi : s.initd with
    | true => exact .inl (answer (exec_rdb hp hi a r))
    | false => exact .inr (.inl (answer (exec_rdb_uninit hp hi a r)))
  · exact .inr (.inr (answer (exec_busy _ hp)))

/-- Settles O20: neither the begun transaction nor a refusal writes one of these, and no device register is reached
without an action. -/
theorem rdbFrame : Obligations.RdbFrame := by
  intro s t a r h
  rcases exec_rdb_cases h with rfl | rfl | rfl
  · simp
  · simp
  · simp

/-- Settles O15: in the idle state `INITD` alone decides between the transaction and the refusal. -/
theorem rdbAcceptance : Obligations.RdbAcceptance := by
  refine ⟨fun s a r hp hi => ⟨_, exec_rdb hp hi a r, ?_⟩, fun s a r hp hi =>
    ⟨_, exec_rdb_uninit hp hi a r, s.isRefused_raiseRefused _⟩⟩
  simp [Pc.bits, Pc.active, Pc.dir, Pc.ph, Dir.bit]

end Sys2Proof.Machine

/-! ## One poll of a wait (R88, R97 to R104, R124)

What a poll does to the whole state where it leaves its wait for the next one and where it times out, for every wait. -/

namespace Sys2Proof.Machine

/-- `s` with the register written that the exit of the wait `p` writes beside `pc` and `CNT` (R102 to R104). -/
def State.exitWrites (s : State) : Pc → State
  | .r5 => s.setAckEn false
  | .r6 => s.setRes s.sample.rxData
  | .r7 => s.setAckEn true
  | .idle | .w0 | .w1 | .w2 | .w3 | .w4 | .r0 | .r1 | .r2 | .r3 | .r4 => s

section
variable (s : State) (p : Pc)
@[simp] theorem State.exitWrites_dev : (s.exitWrites p).dev = s.dev := by cases p <;> rfl
@[simp] theorem State.exitWrites_reg : (s.exitWrites p).reg = s.reg := by cases p <;> rfl
@[simp] theorem State.exitWrites_dat : (s.exitWrites p).dat = s.dat := by cases p <;> rfl
@[simp] theorem State.exitWrites_initd : (s.exitWrites p).initd = s.initd := by cases p <;> rfl
@[simp] theorem State.exitWrites_env : (s.exitWrites p).env = s.env := by cases p <;> rfl

theorem State.exitWrites_res : (s.exitWrites p).res = if p = .r6 then s.sample.rxData else s.res := by
  cases p <;> rfl

theorem State.exitWrites_ackEn :
    (s.exitWrites p).ackEn = if p = .r5 then false else if p = .r7 then true else s.ackEn := by
  cases p <;> rfl
end

/-- R84 (a), R88: a successful poll with another wait after it. -/
theorem step_leavesWait {s : State} {p : Pc} (h : s.PollsIn p) (hn : p.next ≠ .idle)
    (hc : waitCond p s.sample = true) {acts : List Action} (ha : s.exitActions = acts) :
    ∃ t, step s = .next t ∧ (s.exitWrites p).LeavesWait t acts p.next := by
  obtain ⟨hr, rfl⟩ := h
  subst ha
  have hp : s.pc ≠ .idle := fun hp => hn (by rw [hp, Pc.next])
  refine ⟨_, step_exit hr hp hc, ?_⟩
  have hacts : s.beginStep.sampled.exitActions = s.exitActions := rfl
  have hrsp : s.beginStep.sampled.exitRsp = none := State.exitRsp_of_next_wait (s := s.beginStep.sampled) hn
  constructor
  case out => simp [State.exitWait_out, hacts, hrsp, Outputs.none]
  case env => simp [State.exitWait_env, hacts, hn]
  case pc => simp
  case cnt => simp [State.exitWait_cnt, hn]
  case dev => simp
  case reg => simp
  case dat => simp
  case res => exact (State.exitWait_res _ _).trans (s.exitWrites_res s.pc).symm
  case ackEn => exact (State.exitWait_ackEn _ _).trans (s.exitWrites_ackEn s.pc).symm
  case initd => simp

/-- R124: the last failing poll. -/
theorem step_timesOut {s : State} {p : Pc} (h : s.PollsIn p) (hp : p ≠ .idle) (hc : waitCond p s.sample = false)
    (h1 : s.cnt = 1#32) : ∃ t, step s = .next t ∧ s.TimesOut t p.dir p.ph := by
  obtain ⟨hr, rfl⟩ := h
  exact ⟨_, step_timeout hr hp hc h1, s.timesOut_raiseTimeout⟩

end Sys2Proof.Machine

/-! ## The waits of a read (R97 to R104) -/

namespace Sys2Proof.Machine

/-- R97: a free bus gets its START. -/
theorem step_r0_leaves {s : State} (h : s.PollsIn .r0) (hb : s.sample.busy = false) :
    ∃ t, step s = .next t ∧ s.LeavesWait t [.start] .r1 := by
  exact step_leavesWait h (by decide) (by simp [waitCond, hb]) (by simp [State.exitActions, h.2])

/-- Settles O22: the exit and the timeout of each wait; the acceptance leads to `R0`. -/
theorem readSendsRegisterAddress : Obligations.ReadSendsRegisterAddress := by
  refine ⟨fun s h => ⟨step_r0_leaves h, fun hb => step_timesOut h (by decide) (by simp [waitCond, hb])⟩,
    fun s h => ⟨fun hc => ?_, step_timesOut h (by decide)⟩,
    fun s h => ⟨fun hc => ?_, step_timesOut h (by decide)⟩, fun s a r hacc hi => ?_⟩
  · exact step_leavesWait h (by decide) hc (by simp [State.exitActions, h.2])
  · exact step_leavesWait h (by decide) hc (by simp [State.exitActions, h.2])
  · refine ⟨_, step_rdb hacc hi, by simp, fun hr hb => ?_⟩
    obtain ⟨u, hu, hleaves⟩ := step_r0_leaves ⟨hr, by simp⟩ hb
    exact ⟨u, hu, hleaves.pc, congrArg Outputs.actions hleaves.out⟩

/-- Settles O23: the exit and the timeout of each of the two waits. -/
theorem readTurnsTheBusAround : Obligations.ReadTurnsTheBusAround := by
  refine ⟨fun s h => ⟨fun hc => ?_, step_timesOut h (by decide)⟩,
    fun s h => ⟨fun hc => ?_, step_timesOut h (by decide)⟩⟩
  · exact step_leavesWait h (by decide) hc (by simp [State.exitActions, h.2])
  · exact step_leavesWait h (by decide) hc (by simp [State.exitActions, h.2])

/-- Settles O24: the exit of `R5` is one step, and a timeout has no action. -/
theorem readDisablesAcknowledge : Obligations.ReadDisablesAcknowledge := by
  refine fun s h => ⟨fun hc => ?_, step_timesOut h (by decide)⟩
  exact step_leavesWait h (by decide) hc (by simp [State.exitActions, h.2])

/-- No wait condition is about `rx_data` (R82). -/
theorem waitCond_rxData (p : Pc) (f : FlagSample) (b : Byte) : waitCond p { f with rxData := b } = waitCond p f := by
  cases p <;> rfl

/-- A failing poll looks at nothing of the sample beyond the condition (R83). -/
theorem State.pollOn_of_waitCond_false {s : State} {f : FlagSample} (h : waitCond s.pc f = false) :
    s.pollOn f = s.pollFail := by
  simp [State.pollOn, h]

/-- R103: outside the exit of `R6` a poll is the same whatever `rx_data` is. -/
theorem State.pollOn_rxData {s : State} {f : FlagSample} (h : s.pc = .r6 → f.rxne = false) (b : Byte) :
    s.pollOn { f with rxData := b } = s.pollOn f := by
  by_cases h6 : s.pc = .r6
  · have hc : waitCond s.pc f = false := by rw [h6]; exact h h6
    rw [State.pollOn_of_waitCond_false hc, State.pollOn_of_waitCond_false ((waitCond_rxData _ f b).trans hc)]
  · exact State.pollOn_congr (waitCond_rxData _ f b) fun hx => absurd hx h6

/-- Settles O25: `rx_data` goes into `RES` in the exit of `R6`, and no other poll depends on it. -/
theorem readCapturesByte : Obligations.ReadCapturesByte := by
  refine ⟨fun s h => ⟨fun hc => ?_, step_timesOut h (by decide)⟩, fun s f b rest hr hp hrx => ?_⟩
  · exact step_leavesWait h (by decide) hc (by simp [State.exitActions, h.2])
  · rw [step_poll_listed hr hp, step_poll_listed hr hp]
    exact congrArg _ (State.pollOn_rxData (by simpa using hrx) b).symm

/-- Settles O26: the exit of `R7` ends the command with `RES` as its answer. -/
theorem readReturnsByte : Obligations.ReadReturnsByte := by
  refine fun s h => ⟨fun hb => ?_, fun hb => step_timesOut h (by decide) (by simp [waitCond, hb])⟩
  obtain ⟨hr, hp⟩ := h
  refine ⟨_, step_exit hr (by simp [hp]) (by simp [hp, waitCond, hb]), ?_⟩
  have hexit : s.beginStep.sampled.exitWait s.sample = s.beginStep.sampled.exitR7 := by simp [State.exitWait, hp]
  have hlatches : s.SameLatches s.beginStep.sampled.exitR7 := by constructor <;> simp
  rw [hexit]
  simp [hlatches, Outputs.none, resultWord]

/-- Settles O55: ENV-ECHO has every answer ready, and the eleven actions of a read change no device register. -/
theorem echoReadReturnsTheRegister : Obligations.EchoReadReturnsTheRegister := by
  intro s e a r he hw hb ha hacc hi hr
  obtain ⟨t, ht, hpt, hit, hat, hot, het⟩ := run_echo_rdb he hw hb ha hacc hi hr
  exact ⟨t, _, ht, hpt, hit, hat, hot, run_host ht, het, EchoEnv.after_read hw ha r⟩

end Sys2Proof.Machine

/-! ## The action trace of a transaction (R105 to R107, R114, R124)

What holds of the actions of a transaction, counted from its first wait, after every step of it: an induction over the
trace, with one lemma for what a poll adds. -/

namespace Sys2Proof.Machine

/-- What holds of no actions, and is kept by every step out of a wait without `rst`, holds of the trace of a
transaction. -/
theorem runTrace_induction {P : List Action → State → Prop} {s t : State} {k : Nat} {acts : List Action}
    (hstep : ∀ acts u v, P acts u → u.pc ≠ .idle → u.hostNow.rst = false → step u = .next v →
      P (acts ++ v.out.actions) v)
    (hr : s.noReset k) (hb : s.busyFor k) (h : runTrace k s = some (acts, t)) {before : List Action}
    (hs : P before s) : P (before ++ acts) t := by
  induction k generalizing s acts before with
  | zero =>
    obtain ⟨rfl, rfl⟩ : [] = acts ∧ s = t := by simpa [runTrace] using h
    simpa using hs
  | succ k ih =>
    obtain ⟨u, hu⟩ := exists_step s
    rw [runTrace_succ k hu, Option.map_eq_some_iff] at h
    obtain ⟨⟨rest, v⟩, hrest, heq⟩ := h
    obtain ⟨rfl, rfl⟩ := Prod.mk.inj heq
    have hbu : u.busyFor k := fun j hj w hw => hb (j + 1) (by omega) w ((run_succ j hu).trans hw)
    rw [← List.append_assoc]
    exact ih (State.noReset_tail hr (step_host hu)) hbu hrest
      (hstep _ _ _ hs (hb 0 (by omega) s rfl) (State.noReset_succ hr) hu)

/-- All the actions of a transaction with `s`'s direction and latches that ends well (R106, R115). -/
def State.traceWhole (s : State) : List Action :=
  match s.pc.dir with
  | .read => readTraceWhole s.dev s.reg
  | .write => writeTraceWhole s.dev s.reg s.dat

/-- `ACK_EN` in the wait `p` of a transaction that began with `a` in it: off from the exit of `R5` on (R102). -/
def ackEnAt (p : Pc) (a : Bool) : Bool :=
  if p = .r6 ∨ p = .r7 then false else a

/-- The transaction whose first wait `s` is in is under way in the wait `t` and has emitted `acts` (R105, R114). -/
structure State.UnderWay (s : State) (acts : List Action) (t : State) : Prop where
  wait : t.pc ≠ .idle
  dir : t.pc.dir = s.pc.dir
  dev : t.dev = s.dev
  reg : t.reg = s.reg
  dat : t.dat = s.dat
  ackEn : t.ackEn = ackEnAt t.pc s.ackEn
  trace : acts = s.traceBefore t.pc

/-- How the transaction whose first wait `s` is in stands in `t`, having emitted `acts`. -/
inductive State.TransactionTo (s : State) (acts : List Action) (t : State) : Prop
  /-- It goes on. -/
  | waiting (h : s.UnderWay acts t)
  /-- It has ended well (R106, R115). -/
  | finished (done : t.pc = .idle)
      (rsp : t.out.rsp =
        some { data := if s.pc.dir = .read then resultWord t.res else 0#32, status := .ok, phase := 0#3 })
      (diag : t.out.diag = none) (ackEn : t.ackEn = if s.pc.dir = .read then true else s.ackEn)
      (trace : acts = s.traceWhole)
  /-- It has timed out in the wait `p` (R107, R124). -/
  | timedOut (p : Pc) (wait : p ≠ .idle) (dir : p.dir = s.pc.dir) (done : t.pc = .idle)
      (rsp : t.out.rsp = some { data := 0#32, status := .timeout, phase := p.ph })
      (diag : t.out.diag = some { dir := s.pc.dir, phase := p.ph }) (ackEn : t.ackEn = ackEnAt p s.ackEn)
      (trace : acts = s.traceBefore p)

/-- The last waits are `W4` and `R7` (R21). -/
theorem Pc.last_wait {p : Pc} (hp : p ≠ .idle) (h : p.next = .idle) : p = .w4 ∨ p = .r7 := by
  cases p <;> simp [Pc.next] at hp h ⊢

/-- R102: the exit of `R5`, and no other into a wait, changes `ACK_EN`. -/
theorem State.exitWait_ackEnAt {s : State} {a : Bool} (h : s.ackEn = ackEnAt s.pc a) (hn : s.pc.next ≠ .idle)
    (f : FlagSample) : (s.exitWait f).ackEn = ackEnAt s.pc.next a := by
  rw [State.exitWait_ackEn, h]
  cases hp : s.pc <;> simp [hp, ackEnAt, Pc.next] at hn ⊢

/-- The actions of the last exit complete the trace (R106, R115). -/
theorem State.traceWhole_eq {s t : State} (hdir : t.pc.dir = s.pc.dir) (hl : t.pc = .w4 ∨ t.pc = .r7) :
    s.traceWhole = s.traceBefore t.pc ++ t.exitActions := by
  rw [State.traceWhole, State.traceBefore, State.exitActions, ← hdir]
  rcases hl with hp | hp <;>
    simp [hp, Pc.dir, writeTraceWhole, writeTraceBefore, readTraceWhole, readTraceBefore]

namespace State.UnderWay

variable {s t : State} {acts : List Action}

/-- No action has gone out in the first wait. -/
theorem first (hp : s.pc = .r0 ∨ s.pc = .w0) : s.UnderWay [] s := by
  rcases hp with hp | hp <;> constructor <;>
    simp [hp, ackEnAt, State.traceBefore, Pc.dir, readTraceBefore, writeTraceBefore]

/-- An exit into another wait adds its actions. -/
theorem exit_wait (h : s.UnderWay acts t) (hn : t.pc.next ≠ .idle) (f : FlagSample) :
    s.UnderWay (acts ++ t.exitActions) (t.beginStep.sampled.exitWait f) := by
  have hpc : (t.beginStep.sampled.exitWait f).pc = t.pc.next := State.exitWait_pc _ _
  constructor
  case wait => rwa [hpc]
  case dir => rw [hpc, (Pc.next_dir_ph hn).1, h.dir]
  case dev => simp [h.dev]
  case reg => simp [h.reg]
  case dat => simp [h.dat]
  case ackEn =>
    rw [hpc]
    exact State.exitWait_ackEnAt (s := t.beginStep.sampled) h.ackEn hn f
  case trace => rw [hpc, State.traceBefore_next h.dev h.reg h.dat hn, h.trace]

/-- The last exit completes the trace, and the answer of a read is its captured byte. -/
theorem exit_last (h : s.UnderWay acts t) (hn : t.pc.next = .idle) (f : FlagSample) :
    s.TransactionTo (acts ++ t.exitActions) (t.beginStep.sampled.exitWait f) := by
  have hl := Pc.last_wait h.wait hn
  refine .finished (by simpa using hn) ?_ (State.exitWait_diag _ _) ?_ ?_
  · rw [State.exitWait_rsp, State.exitRsp_of_next_idle (s := t.beginStep.sampled) h.wait hn, ← h.dir]
    rcases hl with hl | hl <;> simp [hl, Pc.dir, State.exitWait_res]
  · rw [← h.dir]
    rcases hl with hl | hl <;> simp [hl, Pc.dir, State.exitWait_ackEn, h.ackEn, ackEnAt]
  · rw [h.trace, State.traceWhole_eq h.dir hl]

/-- A timeout ends the transaction and adds no action. -/
theorem timeout (h : s.UnderWay acts t) : s.TransactionTo acts t.beginStep.sampled.raiseTimeout := by
  have ho := t.timesOut_raiseTimeout
  exact .timedOut t.pc h.wait h.dir ho.pc (by rw [ho.out]) (by rw [ho.out, h.dir]) (ho.ackEn.trans h.ackEn) h.trace

/-- Any other failing poll changes nothing that counts here. -/
theorem failing (h : s.UnderWay acts t) (v : Word) : s.UnderWay acts (t.beginStep.sampled.setCnt v) :=
  { h with }

/-- What the poll of a wait adds: an exit its actions, a failing poll nothing. -/
theorem poll (h : s.UnderWay acts t) :
    s.TransactionTo (acts ++ t.beginStep.poll.out.actions) t.beginStep.poll := by
  rw [State.poll_actions]
  rcases poll_cases t.beginStep with ⟨hc, hx⟩ | ⟨hc, -, hx⟩ | ⟨hc, -, hx⟩ <;> rw [hx]
  · rw [if_pos hc]
    by_cases hn : t.pc.next = .idle
    · exact h.exit_last hn _
    · exact .waiting (h.exit_wait hn _)
  · rw [hc]
    simpa [Outputs.none] using h.timeout
  · rw [hc]
    simpa [Outputs.none] using TransactionTo.waiting (h.failing _)

end State.UnderWay

namespace State.TransactionTo

variable {s t u : State} {acts : List Action}

/-- A transaction that goes on takes its next poll. -/
theorem step (h : s.TransactionTo acts t) (hp : t.pc ≠ .idle) (hr : t.hostNow.rst = false)
    (hu : Machine.step t = .next u) : s.TransactionTo (acts ++ u.out.actions) u := by
  cases h with
  | waiting h => exact step_unique hu (step_poll hr hp) ▸ h.poll
  | finished done rsp diag ackEn trace => exact absurd done hp
  | timedOut p wait dir done rsp diag ackEn trace => exact absurd done hp

/-- After any number of steps of a transaction. -/
theorem of_runTrace {k : Nat} (hp : s.pc = .r0 ∨ s.pc = .w0) (hr : s.noReset k) (hb : s.busyFor k)
    (h : runTrace k s = some (acts, t)) : s.TransactionTo acts t :=
  runTrace_induction (P := s.TransactionTo) (fun _ _ _ hs hp hr hu => hs.step hp hr hu) hr hb h (.waiting (.first hp))

end State.TransactionTo

/-- R119: a wait of a read is named by its phase. -/
theorem readWait_ph {p : Pc} (h : p.dir = .read) : readWait p.ph = p := by
  revert h
  cases p <;> decide

/-- R102, R119: the two waits of a read with `ACK_EN` off are phases 6 and 7. -/
theorem ackEnAt_ph {p : Pc} (h : p.dir = .read) (a : Bool) :
    ackEnAt p a = if p.ph = 6#3 ∨ p.ph = 7#3 then false else a := by
  revert h
  cases p <;> simp [ackEnAt, Pc.dir, Pc.ph]

/-- Settles O59: the three ways a transaction stands after some steps, read off for one that began in `R0`. -/
theorem readTrace : Obligations.ReadTrace := by
  intro s t k acts hs hr hb h
  have hdir : s.pc.dir = .read := by rw [hs, Pc.dir]
  have hbefore : ∀ {p : Pc}, p.dir = s.pc.dir → s.traceBefore p = readTraceBefore s.dev s.reg p := fun hp => by
    rw [State.traceBefore, hp, hdir]
  cases State.TransactionTo.of_runTrace (.inl hs) hr hb h with
  | waiting h => exact ⟨fun _ => h.trace.trans (hbefore h.dir), fun hp => absurd hp h.wait⟩
  | finished done rsp diag ackEn trace =>
    rw [if_pos hdir] at rsp ackEn
    rw [State.traceWhole, hdir] at trace
    exact ⟨fun hp => absurd done hp, fun _ => ⟨_, rsp, .inl ⟨rfl, rfl, rfl, ackEn, diag, trace⟩⟩⟩
  | timedOut p wait dir done rsp diag ackEn trace =>
    have hread : p.dir = .read := dir.trans hdir
    refine ⟨fun hp => absurd done hp, fun _ => ⟨_, rsp, .inr ⟨rfl, rfl, hdir ▸ diag, ?_, ?_⟩⟩⟩
    · rw [readWait_ph hread, trace, hbefore dir]
    · rw [ackEn, ackEnAt_ph hread]

end Sys2Proof.Machine

/-! ## WRB's acceptance (R108) -/

namespace Sys2Proof.Machine

/-- R108: after INIT a WRB begins its transaction in the acceptance step. -/
theorem exec_wrb {s : State} (hp : s.pc = .idle) (hi : s.initd = true) (a : DevAddr) (r v : Byte) :
    exec (.wrb a r v) s = .next (s.writeEffect a r v) := by
  simp [exec_idle _ hp, afterCommand, hi]

/-- R120: before INIT a WRB is refused. -/
theorem exec_wrb_uninit {s : State} (hp : s.pc = .idle) (hi : s.initd = false) (a : DevAddr) (r v : Byte) :
    exec (.wrb a r v) s = .next (s.raiseRefused .notInitialized) := by
  simp [exec_idle _ hp, afterCommand, hi]

/-- What WRB can answer in any state: its transaction begins, it is refused, or it is not accepted (R61, R108, R120). -/
theorem exec_wrb_cases {s t : State} {a : DevAddr} {r v : Byte} (h : exec (.wrb a r v) s = .next t) :
    t = s.writeEffect a r v ∨ t = s.raiseRefused .notInitialized ∨ t = s := by
  have answer : ∀ {u : State}, exec (.wrb a r v) s = .next u → t = u :=
    fun hu => Host.Outcome.next.inj (h.symm.trans hu)
  by_cases hp : s.pc = .idle
  · cases hi : s.initd with
    | true => exact .inl (answer (exec_wrb hp hi a r v))
    | false => exact .inr (.inl (answer (exec_wrb_uninit hp hi a r v)))
  · exact .inr (.inr (answer (exec_busy _ hp)))

/-- Settles O21: neither the begun transaction nor a refusal writes one of these, and the acceptance emits no action
that could store the byte. -/
theorem wrbFrame : Obligations.WrbFrame := by
  intro s t a r v h
  rcases exec_wrb_cases h with rfl | rfl | rfl
  · simp
  · simp
  · simp

/-- Settles O16: in the idle state `INITD` alone decides between the transaction and the refusal. -/
theorem wrbAcceptance : Obligations.WrbAcceptance := by
  refine ⟨fun s a r v hp hi => ⟨_, exec_wrb hp hi a r v, ?_⟩, fun s a r v hp hi =>
    ⟨_, exec_wrb_uninit hp hi a r v, s.isRefused_raiseRefused _⟩⟩
  simp [Pc.bits, Pc.active, Pc.dir, Pc.ph, Dir.bit]

end Sys2Proof.Machine

/-! ## The waits of a write (R109 to R113) -/

namespace Sys2Proof.Machine

/-- Settles O27: the exit and the timeout of each wait. -/
theorem writeSendsAddressAndValue : Obligations.WriteSendsAddressAndValue := by
  refine ⟨fun s h => ⟨fun hb => ?_, fun hb => step_timesOut h (by decide) (by simp [waitCond, hb])⟩,
    fun s h => ⟨fun hc => ?_, step_timesOut h (by decide)⟩,
    fun s h => ⟨fun hc => ?_, step_timesOut h (by decide)⟩,
    fun s h => ⟨fun hc => ?_, step_timesOut h (by decide)⟩⟩
  · exact step_leavesWait h (by decide) (by simp [waitCond, hb]) (by simp [State.exitActions, h.2])
  · exact step_leavesWait h (by decide) hc (by simp [State.exitActions, h.2])
  · exact step_leavesWait h (by decide) hc (by simp [State.exitActions, h.2])
  · exact step_leavesWait h (by decide) hc (by simp [State.exitActions, h.2])

/-- Settles O28: the exit of `W4` ends the command in the step of its STOP. -/
theorem writeStopsAndAnswers : Obligations.WriteStopsAndAnswers := by
  refine fun s h => ⟨fun hc => ?_, step_timesOut h (by decide)⟩
  obtain ⟨hr, hp⟩ := h
  refine ⟨_, step_exit hr (by simp [hp]) (by simp [hp, waitCond, hc]), ?_⟩
  have hexit : s.beginStep.sampled.exitWait s.sample = s.beginStep.sampled.exitW4 := by simp [State.exitWait, hp]
  have hlatches : s.SameLatches s.beginStep.sampled.exitW4 := by constructor <;> simp
  rw [hexit]
  simp [hlatches, Outputs.none]

/-- Settles O54: ENV-ECHO has every answer ready, and the five actions of a write store its byte and free the bus. -/
theorem echoWriteStoresItsByte : Obligations.EchoWriteStoresItsByte := by
  intro s e a r v he hw hb ha hacc hi hr
  obtain ⟨t, ht, hpt, hit, hat, hot, het⟩ := run_echo_wrb he hw hb ha hacc hi hr
  exact ⟨t, _, ht, hpt, hit, hat, hot, run_host ht, het, EchoEnv.after_write hw ha r v⟩

end Sys2Proof.Machine

/-! ## The action trace of a write (R114, R115, R124) -/

namespace Sys2Proof.Machine

section
variable (a : DevAddr) (r v : Byte) (p : Pc)

/-- R114: a write has emitted its START at most once, in whichever wait it is. -/
theorem count_start_writeTraceBefore : (writeTraceBefore a r v p).count .start ≤ 1 := by
  cases p <;> simp [writeTraceBefore]

/-- R115: the whole write has one START. -/
theorem count_start_writeTraceWhole : (writeTraceWhole a r v).count .start = 1 := by
  simp [writeTraceWhole]

/-- R114: before the exit of `W4` a write has emitted no STOP. -/
theorem stop_notMem_writeTraceBefore : .stop ∉ writeTraceBefore a r v p := by
  cases p <;> simp [writeTraceBefore]

end

/-- R119: a wait of a write is named by its phase. -/
theorem writeWait_ph {p : Pc} (hp : p ≠ .idle) (h : p.dir = .write) : writeWait p.ph = p := by
  revert hp h
  cases p <;> decide

/-- R119: the phases of a write are 0 to 4. -/
theorem Pc.ph_lt_of_write {p : Pc} (h : p.dir = .write) : p.ph.toNat < 5 := by
  revert h
  cases p <;> decide

/-- R114: no wait of a write has `ACK_EN` off on its account. -/
theorem ackEnAt_of_write {p : Pc} (h : p.dir = .write) (b : Bool) : ackEnAt p b = b := by
  revert h
  cases p <;> simp [ackEnAt, Pc.dir]

/-- Settles O60: the three ways a transaction stands after some steps, read off for one that began in `W0`. -/
theorem writeTrace : Obligations.WriteTrace := by
  intro s t k acts hs hr hb h
  have hdir : s.pc.dir = .write := by rw [hs, Pc.dir]
  have hread : s.pc.dir ≠ .read := by simp [hdir]
  have hbefore : ∀ {p : Pc}, p.dir = s.pc.dir → s.traceBefore p = writeTraceBefore s.dev s.reg s.dat p := fun hp => by
    rw [State.traceBefore, hp, hdir]
  cases State.TransactionTo.of_runTrace (.inr hs) hr hb h with
  | waiting h =>
    have htrace := h.trace.trans (hbefore h.dir)
    refine ⟨h.ackEn.trans (ackEnAt_of_write (h.dir.trans hdir) _), ?_, fun _ => htrace, fun hp => absurd hp h.wait⟩
    exact htrace ▸ count_start_writeTraceBefore _ _ _ _
  | finished done rsp diag ackEn trace =>
    rw [if_neg hread] at rsp ackEn
    rw [State.traceWhole, hdir] at trace
    refine ⟨ackEn, ?_, fun hp => absurd done hp, fun _ => ⟨_, rsp, rfl, .inl ⟨rfl, rfl, diag, trace⟩⟩⟩
    exact trace ▸ (count_start_writeTraceWhole _ _ _).le
  | timedOut p wait dir done rsp diag ackEn trace =>
    have hwrite : p.dir = .write := dir.trans hdir
    have htrace := trace.trans (hbefore dir)
    refine ⟨ackEn.trans (ackEnAt_of_write hwrite _), ?_, fun hp => absurd done hp, fun _ =>
      ⟨_, rsp, rfl, .inr ⟨rfl, Pc.ph_lt_of_write hwrite, hdir ▸ diag, ?_, ?_⟩⟩⟩
    · exact htrace ▸ count_start_writeTraceBefore _ _ _ _
    · rw [writeWait_ph wait hwrite, htrace]
    · exact htrace ▸ stop_notMem_writeTraceBefore _ _ _ _

end Sys2Proof.Machine

/-! ## The two exceptions: refusal and timeout (R117, R120, R124, R125) -/

namespace Sys2Proof.Machine

/-- R120's three reasons why `s` refuses the word `w` when it accepts it. -/
def State.Refuses (s : State) (w : Word) : Prop :=
  (∃ e, decode w = .error e) ∨ (decode w = .ok .init ∧ s.initd = true) ∨
    ((∃ a r, decode w = .ok (.rdb a r)) ∧ s.initd = false) ∨
    ((∃ a r v, decode w = .ok (.wrb a r v)) ∧ s.initd = false)

/-- An acceptance step either has a reason to refuse and does, or has none and answers otherwise: OK for INIT, nothing
yet for a transaction. -/
theorem step_accepted_cases {s : State} {w : Word} (h : s.Accepts w) :
    ∃ t, step s = .next t ∧
      ((s.Refuses w ∧ s.beginStep.IsRefused t) ∨
        (¬ s.Refuses w ∧ t.out.rsp ≠ some { data := 0#32, status := .refused, phase := 0#3 })) := by
  obtain ⟨hr, hp, hc⟩ := h
  have refused (why : RefuseReason) : s.beginStep.IsRefused (s.beginStep.raiseRefused why) :=
    s.beginStep.isRefused_raiseRefused why
  cases hd : decode w with
  | error e => exact ⟨_, step_illegal hr hp hc hd, .inl ⟨.inl ⟨e, hd⟩, refused _⟩⟩
  | ok i =>
    refine ⟨_, step_command hr hp hc hd, ?_⟩
    cases i with
    | init =>
      cases hi : s.initd with
      | true => exact .inl ⟨.inr (.inl ⟨hd, hi⟩), by simp [afterCommand, hi, refused]⟩
      | false => exact .inr (by simp [State.Refuses, afterCommand, hd, hi])
    | wrb a r v =>
      cases hi : s.initd with
      | true => exact .inr (by simp [State.Refuses, afterCommand, hd, hi, Outputs.none])
      | false => exact .inl ⟨.inr (.inr (.inr ⟨⟨a, r, v, hd⟩, hi⟩)), by simp [afterCommand, hi, refused]⟩
    | rdb a r =>
      cases hi : s.initd with
      | true => exact .inr (by simp [State.Refuses, afterCommand, hd, hi, Outputs.none])
      | false => exact .inl ⟨.inr (.inr (.inl ⟨⟨a, r, hd⟩, hi⟩)), by simp [afterCommand, hi, refused]⟩

/-- Settles O17: of the two kinds of acceptance the one that refuses is the one with a reason. -/
theorem refusedWordsHaveNoEffect : Obligations.RefusedWordsHaveNoEffect := by
  intro s w h
  obtain ⟨t, ht, ⟨why, hrefused⟩ | ⟨hnone, hrsp⟩⟩ := step_accepted_cases h
  · exact ⟨t, ht, fun _ => hrefused, fun _ => why⟩
  · exact ⟨t, ht, fun why => absurd why hnone, fun hrefused => absurd hrefused hrsp⟩

/-- R20, R124: after a timeout `ACTIVE`, `DIR` and `PH` are 0. -/
theorem State.TimesOut.bits {s t : State} {d : Dir} {k : Phase} (h : s.TimesOut t d k) : t.pc.bits = 0#5 :=
  congrArg Pc.bits h.pc

/-- Settles O29: the last failing poll of any wait times out, and the idle state's bits are 0. -/
theorem timeoutEndsTheCommand : Obligations.TimeoutEndsTheCommand := by
  intro s hr hp hc h1
  obtain ⟨t, ht, htimeout⟩ := step_timesOut ⟨hr, rfl⟩ hp hc h1
  exact ⟨t, ht, htimeout, htimeout.bits⟩

end Sys2Proof.Machine

/-! ## Reset and its hazards (R135, R137, R138, R147) -/

namespace Sys2Proof.Machine

/-- Settles O10: under `rst` the step is the reset step, and `cmd_ready` needs `rst` low. -/
theorem resetStepClearsControl : Obligations.ResetStepClearsControl := by
  intro s hr
  exact ⟨by simp [State.cmdReady, hr], _, step_reset hr, rfl, congrArg Pc.bits s.beginStep.resetStep_pc, rfl, rfl, rfl,
    rfl⟩

/-- Settles O11: the reset step puts out nothing, and `onReset` restarts ENV-SCRIPT's counts only. -/
theorem resetAbortsWithoutCleanUp : Obligations.ResetAbortsWithoutCleanUp := by
  intro s hr _
  refine ⟨_, step_reset hr, rfl, rfl, rfl, rfl, fun e he => ?_, fun fs hfs => ?_⟩
  · simp [he]
  · simp [hfs]

/-- Settles O12: of the four kinds of answer the silent one alone has no response, and a silent step from a wait to the
idle state is a reset. -/
theorem onlyResetCancels : Obligations.OnlyResetCancels := by
  intro s t h hp hidle hrsp
  cases step_answer h with
  | silent rsp diag quiet =>
    rcases quiet with hr | ⟨hp', -⟩ | hn
    · exact hr
    · exact absurd hp' hp
    · exact absurd hidle hn
  | acceptance rst pc => exact absurd pc hp
  | finish rst pc cond done diag rsp => simp [rsp] at hrsp
  | timeout rst pc cond cnt done diag rsp => simp [rsp] at hrsp

/-- R24, R147: once INIT was accepted, `ACK_EN` is turned on only at the exit of `R7`. A reset turns it off, and the only
command that writes it, INIT, is refused. -/
theorem step_turns_ackEn_on {s t : State} (h : step s = .next t) (hi : s.initd = true) (hoff : s.ackEn = false)
    (hon : t.ackEn = true) : s.PollsIn .r7 ∧ waitCond .r7 s.sample = true := by
  obtain ⟨hwait, hidle, -⟩ := ackEnWrittenInThreePlacesAndNeverRead
  cases hr : s.hostNow.rst with
  | true => simp [step_unique h (step_reset hr)] at hon
  | false =>
    by_cases hp : s.pc = .idle
    · have hkept : t.ackEn = s.ackEn := (hidle s t h hr hp).2 (by simp [hi])
      simp [hkept, hoff] at hon
    · have hack := hwait s t h hr hp
      by_cases h7 : s.pc = .r7 ∧ waitCond s.pc s.sample = true
      · obtain ⟨hpc, hc⟩ := h7
        exact ⟨⟨hr, hpc⟩, hpc ▸ hc⟩
      · simp [h7, hoff, hon] at hack

/-- R25: `INITD` goes from 1 to 0 only by a reset. -/
theorem step_clears_initd {s t : State} (h : step s = .next t) (hi : s.initd = true) (hclear : t.initd = false) :
    s.hostNow.rst = true := by
  simpa [hi, hclear] using initdMeansInitSinceReset s t h

/-- Settles O37: a timeout keeps `INITD` and `ACK_EN`, which R32 has at 1 and 0 in `R6` and `R7`; the way out is the exit
of `R7` or a reset. -/
theorem acknowledgeStaysOff : Obligations.AcknowledgeStaysOff := by
  refine ⟨fun s t h hreach hr hw hc h1 => ?_, fun s t h hi hoff =>
    ⟨step_turns_ackEn_on h hi hoff, step_clears_initd h hi⟩⟩
  have hp : s.pc ≠ .idle := by rcases hw with hw | hw <;> simp [hw]
  obtain ⟨u, hu, htimeout⟩ := step_timesOut ⟨hr, rfl⟩ hp hc h1
  rw [step_unique h hu]
  exact ⟨htimeout.pc, htimeout.initd.trans (hreach.active_initd hp), htimeout.ackEn.trans (hreach.ack_window hw)⟩

end Sys2Proof.Machine
